-- ==== Sys2Proof/Word.lean ====
section
/-! DEFINITION. The word types of BF-CORE (00_scope.md R10, R11; 20_memory.md R80). -/

namespace Sys2Proof

/-- A 32-bit unsigned value (R10, R11). Its `+` wraps modulo 2^32 (R12). -/
abbrev Word := BitVec 32

/-- An 8-bit unsigned value (R11). -/
abbrev Byte := BitVec 8

/-- The 16-bit byte offset BF-CORE decodes (20_memory.md R80). -/
abbrev Offset := BitVec 16

end Sys2Proof
end

