-- ==== Sys2Proof/Config.lean ====
section
/-! DEFINITION. What an implementation of BF-CORE fixes, and the values the spec leaves free.
The free values are constants with no body: no proof can see what they are. -/

namespace Sys2Proof

/-- The configuration of R19 (00_scope.md): the constant table of R7 and the buffer capacity of R8.
State carries it as a field that no step changes (log entry 1). -/
structure Config where
  /-- `CT[0..L_CT-1]` (R7, R33): `L_CT` is the length of this list. -/
  constTable : List Byte
  /-- `MSG_MAX` (R8), the capacity in bytes of IN and of OUT. -/
  msgMax : Nat
  deriving DecidableEq, Repr

/-- `L_CT` (R7), the length in bytes of the constant table. -/
def Config.ctLen (c : Config) : Nat := c.constTable.length

/-- FREE VALUE (R9, R234, I1; log entry 5). How many host steps pass before the completion of the command whose launch has
this number: the draw `LATENCY` less one. -/
opaque Config.hostStepsBeforeCompletion : Nat → Nat

/-- FREE VALUE (R400, I3; log entry 4). What byte `n` of IN reads as after the reset with this number, until it is written. -/
opaque Config.unwrittenIn : (reset n : Nat) → Byte

/-- FREE VALUE (R400, I3; log entry 4). What byte `n` of OUT reads as after the reset with this number, until it is written. -/
opaque Config.unwrittenOut : (reset n : Nat) → Byte

/-- OPEN parameter (R80, I11; log entry 14): `BASE` in units of 0x10000, so that `BASE` is a multiple of 0x10000. -/
opaque Config.baseWindow : Nat

/-- OPEN parameter (R321, I12; log entry 14): the platform's interrupt input that irq reaches. -/
opaque Config.irqLine : Nat

/-- `BASE` (R80), the platform address of the 64 KiB window. -/
def Config.base : Nat := 0x10000 * Config.baseWindow

end Sys2Proof
end

