-- ==== Sys2Proof/Syntax.lean ====
section
/-! DEFINITION. The commands of R112, the locations of the register map of R37, and the host assembly of R121. -/

namespace Sys2Proof

/-- The eight commands (30_encoding.md R112). None has an operand field (R110). -/
inductive Instr where
  | nop
  | ksched
  | encb
  | decb
  | encm
  | decm
  | feval
  | clrkey
  deriving DecidableEq, Repr

/-- What a command word decodes to (R113): one of the eight commands, or ILLEGAL, which is a value (R231). -/
inductive Command where
  | op (i : Instr)
  | illegal
  deriving DecidableEq, Repr

/-- A location of the register map (10_state.md R37), by its name in R120. -/
inductive Loc where
  | id
  | version
  | config
  | ctlen
  | cmd
  | status
  | irqen
  | keylen
  | msglen
  | outlen
  | xl
  | xr
  | fout
  | key (w : Fin 14)
  | p (i : Fin 18)
  | s (k : Fin 4) (j : Fin 256)
  | inWord (w : Fin 1024)
  | outWord (w : Fin 1024)
  deriving DecidableEq, Repr

/-- What a bus offset names (20_memory.md R82, R83): the first two are answered with ERROR (R87, R88). -/
inductive Located where
  | misaligned
  | reserved
  | loc (l : Loc)
  deriving DecidableEq, Repr

/-- The base statements of the host assembly (R121). A label's name is a number (log entry 11). -/
inductive Stmt where
  /-- `wr LOC, imm32` -/
  | wr (off : Offset) (v : Word)
  /-- `rd LOC` -/
  | rd (off : Offset)
  /-- `label:` -/
  | label (name : Nat)
  /-- `bit1 b, label`: if `t[b] = 1`, continue at the label. -/
  | bit1 (b : Fin 32) (name : Nat)
  /-- `bit0 b, label`: if `t[b] = 0`, continue at the label. -/
  | bit0 (b : Fin 32) (name : Nat)
  /-- `expect v` -/
  | expect (v : Word)
  /-- `halt` -/
  | halt
  deriving DecidableEq, Repr

end Sys2Proof
end

