-- ==== Sys2Proof/WellFormed.lean ====
section
/-! DEFINITION. Which configurations, commands, locations and host programs are well formed. -/

namespace Sys2Proof

/-- R8: `MSG_MAX` is a multiple of 8 with 8 ≤ `MSG_MAX` ≤ 4096. -/
def Config.wf (c : Config) : Bool :=
  decide (c.msgMax % 8 = 0) && decide (8 ≤ c.msgMax) && decide (c.msgMax ≤ 4096)

/-- R7: a conforming BF-CORE has `L_CT = 4168`. -/
def Config.conforming (c : Config) : Bool := c.wf && decide (c.ctLen = 4168)

/-- R115: every command is legal whatever the value of its operands, and none has a field that could be ill formed (R110). -/
def Instr.wf : Instr → Bool
  | .nop => true
  | .ksched => true
  | .encb => true
  | .decb => true
  | .encm => true
  | .decm => true
  | .feval => true
  | .clrkey => true

/-- R37, R88: a word of IN or OUT exists only below `MSG_MAX`; every other location exists in every block. -/
def Loc.wf (c : Config) : Loc → Bool
  | .inWord w => decide (4 * w.val < c.msgMax)
  | .outWord w => decide (4 * w.val < c.msgMax)
  | .id | .version | .config | .ctlen | .cmd | .status | .irqen | .keylen | .msglen | .outlen
  | .xl | .xr | .fout | .key _ | .p _ | .s _ _ => true

/-- The label a statement may continue at. -/
def Stmt.target : Stmt → Option Nat
  | .bit1 _ name => some name
  | .bit0 _ name => some name
  | .wr _ _ | .rd _ | .label _ | .expect _ | .halt => none

/-- The label a statement defines. -/
def Stmt.defines : Stmt → Option Nat
  | .label name => some name
  | .wr _ _ | .rd _ | .bit1 _ _ | .bit0 _ _ | .expect _ | .halt => none

/-- Every label a statement of the program may continue at is one the program defines. -/
def labelsDefined (prog : List Stmt) : Bool :=
  (prog.filterMap Stmt.target).all fun n => (prog.filterMap Stmt.defines).contains n

/-- No label is defined twice (R121: a label names THE next statement). -/
def labelsDistinct (prog : List Stmt) : Bool :=
  decide (prog.filterMap Stmt.defines).Nodup

/-- A host program ends with its `halt` statement (R123). -/
def endsInHalt (prog : List Stmt) : Bool := prog.getLast? == some .halt

/-- A well-formed host program (R121, R123). -/
def programWf (prog : List Stmt) : Bool :=
  labelsDefined prog && labelsDistinct prog && endsInHalt prog

end Sys2Proof
end

