-- ==== Sys2Proof/Decode.lean ====
section
/-! DEFINITION. The decoder of command words (R113) and its encoder (R112), and the decoder of bus offsets (R37, R82)
and its encoder (R120). -/

namespace Sys2Proof

/-- R113, total on every 32-bit word: a word with a reserved bit set, or an opcode of 0x08 to 0xFF, is ILLEGAL (R111). -/
def decode (w : Word) : Command :=
  if w.extractLsb' 8 24 ≠ 0#24 then .illegal
  else
    match (w.extractLsb' 0 8).toNat with
    | 0x00 => .op .nop
    | 0x01 => .op .ksched
    | 0x02 => .op .encb
    | 0x03 => .op .decb
    | 0x04 => .op .encm
    | 0x05 => .op .decm
    | 0x06 => .op .feval
    | 0x07 => .op .clrkey
    | _ => .illegal

/-- The opcode field OP of R112. -/
def opcode : Instr → BitVec 8
  | .nop => 0x00#8
  | .ksched => 0x01#8
  | .encb => 0x02#8
  | .decb => 0x03#8
  | .encm => 0x04#8
  | .decm => 0x05#8
  | .feval => 0x06#8
  | .clrkey => 0x07#8

/-- The command word of R112: the full word is `0x000000 || OP`. -/
def encode (i : Instr) : Word := 0#24 ++ opcode i

/-- The instruction the decoder reads from a table word: the bits above `nbits` are 0, and a command is one word (R110). -/
def decodeTableWord (nbits w : Nat) : Option Instr :=
  match decode (BitVec.ofNat 32 (w % 2 ^ nbits)) with
  | .op i => some i
  | .illegal => none

/-- R80: BF-CORE decodes `addr[15:0]` and does not see the bits above. -/
def offsetOf (addr : Nat) : Offset := BitVec.ofNat 16 addr

/-- The registers of R37 below offset 0x40, by word number. -/
def registerAt : Nat → Located
  | 0 => .loc .id
  | 1 => .loc .version
  | 2 => .loc .config
  | 3 => .loc .ctlen
  | 4 => .loc .cmd
  | 5 => .loc .status
  | 6 => .loc .irqen
  | 7 => .loc .keylen
  | 8 => .loc .msglen
  | 9 => .loc .outlen
  | 10 => .loc .xl
  | 11 => .loc .xr
  | 12 => .loc .fout
  | _ => .reserved

/-- The register map of R37, in the order of R82: alignment first, then the map line by line. The offsets of IN and OUT at
or past `MSG_MAX` are reserved (R88). Each element number is in range where it is formed, so `Fin.ofNat` keeps it as it is. -/
def locateAt (msgMax n : Nat) : Located :=
  if n % 4 ≠ 0 then .misaligned
  else if n < 0x0040 then registerAt (n / 4)
  else if n < 0x0078 then .loc (.key (Fin.ofNat 14 ((n - 0x0040) / 4)))
  else if n < 0x0080 then .reserved
  else if n < 0x00C8 then .loc (.p (Fin.ofNat 18 ((n - 0x0080) / 4)))
  else if n < 0x1000 then .reserved
  else if n < 0x2000 then
    .loc (.s (Fin.ofNat 4 ((n - 0x1000) / 0x400)) (Fin.ofNat 256 ((n - 0x1000) % 0x400 / 4)))
  else if n < 0x3000 then
    if n - 0x2000 < msgMax then .loc (.inWord (Fin.ofNat 1024 ((n - 0x2000) / 4))) else .reserved
  else if n < 0x4000 then
    if n - 0x3000 < msgMax then .loc (.outWord (Fin.ofNat 1024 ((n - 0x3000) / 4))) else .reserved
  else .reserved

/-- What a bus offset names (R37, R82). -/
def locate (msgMax : Nat) (off : Offset) : Located := locateAt msgMax off.toNat

/-- The offset of a location, from the map of R37 and the element offsets of R120. -/
def Loc.offset : Loc → Offset
  | .id => 0x0000#16
  | .version => 0x0004#16
  | .config => 0x0008#16
  | .ctlen => 0x000C#16
  | .cmd => 0x0010#16
  | .status => 0x0014#16
  | .irqen => 0x0018#16
  | .keylen => 0x001C#16
  | .msglen => 0x0020#16
  | .outlen => 0x0024#16
  | .xl => 0x0028#16
  | .xr => 0x002C#16
  | .fout => 0x0030#16
  | .key w => BitVec.ofNat 16 (0x0040 + 4 * w.val)
  | .p i => BitVec.ofNat 16 (0x0080 + 4 * i.val)
  | .s k j => BitVec.ofNat 16 (0x1000 + 0x400 * k.val + 4 * j.val)
  | .inWord w => BitVec.ofNat 16 (0x2000 + 4 * w.val)
  | .outWord w => BitVec.ofNat 16 (0x3000 + 4 * w.val)

/-- The read-only locations (R37, R83, R89). -/
def Loc.readOnly : Loc → Bool
  | .id | .version | .config | .ctlen | .outlen | .fout | .p _ | .s _ _ | .outWord _ => true
  | .cmd | .status | .irqen | .keylen | .msglen | .xl | .xr | .key _ | .inWord _ => false

/-- The busy-locked locations (R37, R91). -/
def Loc.busyLocked : Loc → Bool
  | .cmd | .keylen | .msglen | .xl | .xr | .key _ | .inWord _ => true
  | .id | .version | .config | .ctlen | .status | .irqen | .outlen | .fout | .p _ | .s _ _ | .outWord _ => false

/-- The busy-gated locations (R37, R92). -/
def Loc.busyGated : Loc → Bool
  | .outlen | .xl | .xr | .fout | .p _ | .s _ _ | .outWord _ => true
  | .id | .version | .config | .ctlen | .cmd | .status | .irqen | .keylen | .msglen | .key _ | .inWord _ => false

end Sys2Proof
end

