-- ==== Sys2Proof/Machine/Bytes.lean ====
section
/-! DEFINITION. Byte order: how words are made of bytes (00_scope.md R14; 20_memory.md R84, R85). -/

namespace Sys2Proof.Machine

/-- `BE32(b0,b1,b2,b3)` of R14: `b0` is the most significant byte. -/
def be32 (b0 b1 b2 b3 : Byte) : Word := b0 ++ b1 ++ b2 ++ b3

/-- Byte `t` of a word, counted from the most significant: bits `[31-8t : 24-8t]` (R84). -/
def byteOf (w : Word) (t : Nat) : Byte := w.extractLsb' (24 - 8 * t) 8

/-- `BYTES32(w)` of R14, the inverse of `be32`. -/
def bytes32 (w : Word) : List Byte := [byteOf w 0, byteOf w 1, byteOf w 2, byteOf w 3]

end Sys2Proof.Machine
end

