-- ==== Sys2Proof/Machine/State.lean ====
section
/-! DEFINITION. The state of BF-CORE (10_state.md) with its host agent (R19, R121), why a step can stop, and the state after
reset (70_reset_and_hazards.md R400). -/

namespace Sys2Proof.Machine

/-- The bytes of a message buffer that have been written since reset, by index, in canonical form (`Memory.wf`): an index
that is not listed holds no written byte (log entries 4, 16). -/
abbrev Memory := List Host.Cell

/-- The P-array (R31). -/
abbrev PArray := Vector Word 18

/-- One S-box (R32). -/
abbrev SBox := Vector Word 256

/-- The CipherState, the pair (P, S) of R30. -/
structure CipherState where
  p : PArray
  s : Vector SBox 4
  deriving DecidableEq, Repr

/-- One 64-bit block as its halves (R17). -/
structure Block where
  xl : Word
  xr : Word
  deriving DecidableEq, Repr

/-- The inputs a command's result is a function of (R232): the host's operand registers, KEYED and the CipherState. -/
structure Operands where
  keylen : BitVec 8
  key : Vector Word 14
  xl : Word
  xr : Word
  msglen : Word
  inBuf : Memory
  keyed : Bool
  cipher : CipherState
  deriving DecidableEq, Repr

/-- The command latch (R57): the command in flight and the inputs it read at launch (R231; log entry 8). -/
structure Latch where
  cmd : Command
  snapshot : Operands
  /-- The model's own: how many host steps still pass before the completion (R9, R234; log entry 5). -/
  wait : Nat
  deriving DecidableEq, Repr

/-- The stored fields of STATUS (R43). BUSY is not among them: it is 1 exactly while the latch holds a command
(R230; log entry 9). -/
structure Status where
  done : Bool
  err : Bool
  ovr : Bool
  keyed : Bool
  errcode : BitVec 4
  deriving DecidableEq, Repr

/-- The interrupt enables of IRQEN (R44). -/
structure IrqEnables where
  doneie : Bool
  errie : Bool
  ovrie : Bool
  deriving DecidableEq, Repr

/-- The response of a bus transaction (R81). -/
inductive Response where
  | okay
  | error
  deriving DecidableEq, Repr

/-- A bus transaction, as R121 encodes it: (W, off, imm32) or (R, off). -/
inductive Transaction where
  | write (off : Offset) (v : Word)
  | read (off : Offset)
  deriving DecidableEq, Repr

/-- A transaction the host has issued, its response, and the word a read returned (R81, R121). -/
structure Event where
  transaction : Transaction
  response : Response
  data : Option Word
  deriving DecidableEq, Repr

/-- The host agent (R17, R19): the program it runs (R121), where it stands in it, its one scratch register `t`, what it has
recorded, newest first, and whether an `expect` has failed (log entry 11). -/
structure HostAgent where
  program : List Stmt
  pos : Nat
  t : Word
  trace : List Event
  failed : Bool
  deriving DecidableEq, Repr

/-- Which agent takes the next step (R235, R402). -/
inductive Turn where
  | reset
  | engine (c : Command)
  | host
  deriving DecidableEq, Repr

/-- The command errors (60_exceptions.md R300). -/
inductive CmdError where
  | invalidKeyLength
  | invalidCiphertextLength
  | insufficientConstantData
  | notKeyed
  | illegalCommand
  | lengthOverflow
  deriving DecidableEq, Repr

/-- Why the model stops. BF-CORE itself never does: its errors are status codes (R322) and bus responses (R305). -/
inductive Fault where
  /-- Raised by the host agent (`HostAgent.jump`) when a branch of R121 is taken to a label its program does not define, which
  the host assembly gives no meaning. SAFE: the model stops (log entry 11). -/
  | undefinedLabel (name : Nat)
  deriving DecidableEq, Repr

/-- Why the model declines a meaning. -/
inductive Refusal where
  /-- Raised by no arm: every command has its meaning. SAFE: the model would stop. -/
  | notModelled (mnemonic : String)
  deriving DecidableEq, Repr

/-- The whole state: BF-CORE's (R30 to R57), its configuration, the host agent's, and the model's own counters. -/
structure State where
  /-- The configuration (R19): CT and MSG_MAX. No step changes it (log entry 1). -/
  cfg : Config
  /-- P and S (R30 to R32). -/
  cipher : CipherState
  /-- STATUS (R43), less BUSY. -/
  status : Status
  /-- IRQEN (R44). -/
  irqen : IrqEnables
  /-- KEYLEN.LEN (R48). -/
  keylen : BitVec 8
  /-- MSGLEN (R49). -/
  msglen : Word
  /-- OUTLEN (R50). -/
  outlen : Word
  /-- XL (R51). -/
  xl : Word
  /-- XR (R51). -/
  xr : Word
  /-- FOUT (R52). -/
  fout : Word
  /-- KEY[0..13] (R47). -/
  key : Vector Word 14
  /-- IN (R55). -/
  inBuf : Memory
  /-- OUT (R56). -/
  outBuf : Memory
  /-- The command latch (R57). -/
  latch : Option Latch
  /-- The host agent (R19, R121). -/
  host : HostAgent
  /-- The model's own: the external reset events to come (R402). An entry `n` at the head means that `n` steps pass before
  the next one (log entry 7). -/
  resetSchedule : List Nat
  /-- The model's own: how many launches there have been, which is where the next latency draw is taken (log entry 5). -/
  launches : Nat
  /-- The model's own: how many reset events there have been, which is where the unwritten bytes of IN and OUT are drawn
  (log entry 4). -/
  resets : Nat
  deriving DecidableEq, Repr

/-- The state after reset (R400, R401): idle, unkeyed, every register 0, nothing written in IN and OUT. P and S are
unspecified and never observable (R36): DESIGN CHOICE 0 (log entry 3). The configuration is the default instance: DESIGN CHOICE
(log entry 2). The host has the empty program and no reset event is to come: DESIGN CHOICE (log entries 7, 18). -/
def State.reset : State where
  cfg := defaultConfig
  cipher := { p := Vector.replicate 18 0#32, s := Vector.replicate 4 (Vector.replicate 256 0#32) }
  status := { done := false, err := false, ovr := false, keyed := false, errcode := 0#4 }
  irqen := { doneie := false, errie := false, ovrie := false }
  keylen := 0#8
  msglen := 0#32
  outlen := 0#32
  xl := 0#32
  xr := 0#32
  fout := 0#32
  key := Vector.replicate 14 0#32
  inBuf := []
  outBuf := []
  latch := none
  host := { program := [], pos := 0, t := 0#32, trace := [], failed := false }
  resetSchedule := []
  launches := 0
  resets := 0

end Sys2Proof.Machine
end

