-- ==== Sys2Proof/Machine/Flags.lean ====
section
/-! DEFINITION. STATUS, IRQEN and irq: the words the host reads, what a write does, and what launch and completion set
(10_state.md R43, R44; 43_control.md R231, R233; 60_exceptions.md R300, R320). -/

namespace Sys2Proof.Machine

/-- BUSY is 1 exactly while a command is in flight (R230). -/
def State.busy (s : State) : Bool := s.latch.isSome

/-- KEYED (R35). -/
def State.keyed (s : State) : Bool := s.status.keyed

/-- The word a read of STATUS returns (R43): bit 0 BUSY, 1 DONE, 2 ERR, 3 OVR, 4 KEYED, 11:8 ERRCODE, the rest 0. -/
def Status.word (st : Status) (busy : Bool) : Word :=
  0#20 ++ st.errcode ++ 0#3 ++ BitVec.ofBool st.keyed ++ BitVec.ofBool st.ovr ++ BitVec.ofBool st.err
    ++ BitVec.ofBool st.done ++ BitVec.ofBool busy

/-- What a STATUS write does (R43): W1C of DONE, of ERR with ERRCODE, and of OVR. -/
def Status.writeOneToClear (st : Status) (v : Word) : Status where
  done := st.done && !v.getLsbD 1
  err := st.err && !v.getLsbD 2
  ovr := st.ovr && !v.getLsbD 3
  keyed := st.keyed
  errcode := if v.getLsbD 2 then 0#4 else st.errcode

/-- STATUS after a launch (R231), less BUSY: DONE, ERR and ERRCODE are cleared, OVR and KEYED are not. -/
def Status.launched (st : Status) : Status :=
  { st with done := false, err := false, errcode := 0#4 }

/-- STATUS after a completion with this code (R233), less BUSY. -/
def Status.completed (st : Status) (code : BitVec 4) : Status :=
  { st with done := true, err := decide (code ≠ 0#4), errcode := code }

/-- The code of a command error (R300). -/
def CmdError.code : CmdError → BitVec 4
  | .invalidKeyLength => 1#4
  | .invalidCiphertextLength => 2#4
  | .insufficientConstantData => 3#4
  | .notKeyed => 4#4
  | .illegalCommand => 5#4
  | .lengthOverflow => 6#4

/-- The word a read of IRQEN returns (R44). -/
def IrqEnables.word (e : IrqEnables) : Word :=
  0#29 ++ BitVec.ofBool e.ovrie ++ BitVec.ofBool e.errie ++ BitVec.ofBool e.doneie

/-- What an IRQEN write stores (R44): bits 31:3 are ignored (R38). -/
def IrqEnables.ofWord (v : Word) : IrqEnables where
  doneie := v.getLsbD 0
  errie := v.getLsbD 1
  ovrie := v.getLsbD 2

/-- The interrupt output (R320). -/
def State.irq (s : State) : Bool :=
  (s.status.done && s.irqen.doneie) || (s.status.err && s.irqen.errie) || (s.status.ovr && s.irqen.ovrie)

/-- The level BF-CORE drives on the platform's interrupt input (R321): which one it reaches is the parameter `IRQ_LINE`. -/
def State.irqAtPlatform (s : State) : Nat × Bool := (Config.irqLine, s.irq)

end Sys2Proof.Machine
end

