-- ==== Sys2Proof/Machine/Operands.lean ====
section
/-! DEFINITION. Where a command's operands come from: memory cells, key bytes, message bytes, and the inputs latched at
launch (10_state.md R47, R55, R56; 30_encoding.md R114; 43_control.md R231, R232). -/

namespace Sys2Proof.Machine

/-- The canonical form of a memory: indices strictly rising, so no index is listed twice (log entry 16). -/
abbrev Memory.wf (m : Memory) : Prop := m.Pairwise fun c d => c.1 < d.1

/-- The byte written at an index, if one has been. -/
def Memory.read : Memory → Nat → Option Byte
  | [], _ => none
  | (a, b) :: rest, n => if a = n then some b else Memory.read rest n

/-- Write one byte, keeping the indices rising. -/
def Memory.write : Memory → Nat → Byte → Memory
  | [], n, b => [(n, b)]
  | (a, c) :: rest, n, b =>
    if n < a then (n, b) :: (a, c) :: rest
    else if n = a then (n, b) :: rest
    else (a, c) :: Memory.write rest n b

/-- Write consecutive bytes from an index on. -/
def Memory.writeAll (m : Memory) (n : Nat) : List Byte → Memory
  | [] => m
  | b :: rest => Memory.writeAll (m.write n b) (n + 1) rest

/-- The memory that holds exactly these bytes, from an index on. -/
def Memory.ofBytes (n : Nat) : List Byte → Memory
  | [] => []
  | b :: rest => (n, b) :: Memory.ofBytes (n + 1) rest

/-- `IN[n]` of an input buffer (R55): the byte written there, or a free byte (I3; log entry 4). -/
def readIn (reset : Nat) (m : Memory) (n : Nat) : Byte := (m.read n).getD (Config.unwrittenIn reset n)

/-- `IN[n]` (R55). -/
def State.inByte (s : State) (n : Nat) : Byte := readIn s.resets s.inBuf n

/-- `OUT[n]` (R56): the byte written there, or a free byte (I3; log entry 4). -/
def State.outByte (s : State) (n : Nat) : Byte := (s.outBuf.read n).getD (Config.unwrittenOut s.resets n)

/-- `KEYB(n)` (R47): byte `n` of the key, most significant first in its word. KEY has bytes 0 to 55 and no command reads
another; past them this answers 0 (log entry 19). -/
def keyByte (key : Vector Word 14) (n : Nat) : Byte :=
  if h : n / 4 < 14 then byteOf key[n / 4] (n % 4) else 0#8

/-- The inputs a launch now would latch (R231, R232). -/
def State.inputs (s : State) : Operands where
  keylen := s.keylen
  key := s.key
  xl := s.xl
  xr := s.xr
  msglen := s.msglen
  inBuf := s.inBuf
  keyed := s.status.keyed
  cipher := s.cipher

/-- The inputs of the command in flight: those it read at launch (R232, R233); with none in flight, those it would read. -/
def State.operands (s : State) : Operands :=
  match s.latch with
  | some l => l.snapshot
  | none => s.inputs

/-- The message `IN[0..MSGLEN-1]` of the command in flight (R210, R220). -/
def State.message (s : State) : List Byte :=
  (List.range s.operands.msglen.toNat).map fun n => readIn s.resets s.operands.inBuf n

end Sys2Proof.Machine
end

