-- ==== Sys2Proof/Machine/Ops.lean ====
section
/-! DEFINITION. The shared operations: launch, completion and command error (43_control.md), bus reads and writes
(20_memory.md), reset (70_reset_and_hazards.md R402), and which agent moves next (R235). -/

namespace Sys2Proof.Machine

/-! ### The life of a command -/

/-- Launch (R231): the command and its inputs are latched, BUSY is 1, and DONE, ERR and ERRCODE are cleared. The completion
comes after `wait` host steps. -/
def State.launchWith (wait : Nat) (s : State) (w : Word) : State :=
  { s with
    latch := some { cmd := decode w, snapshot := s.inputs, wait := wait }
    status := s.status.launched
    launches := s.launches + 1 }

/-- Launch with the latency drawn for it (R9, R231, R234; log entry 5). -/
def State.launch (s : State) (w : Word) : State :=
  s.launchWith (Config.hostStepsBeforeCompletion s.launches) w

/-- Completion (R233) of a command that has made its writes, with the code it ended with. -/
def State.finish (s : State) (code : BitVec 4) : State :=
  { s with latch := none, status := s.status.completed code }

/-- The end of a command's rule (R233): its writes stand, and the code is 0. -/
def succeed (s : State) : Host.Outcome State Fault Refusal := .next (s.finish 0#4)

/-- `raise Error(c)` (R14, R233): no effect but the STATUS update of the completion (R304). This is the one operation that
takes an error; BF-CORE has no trap entry and no return (R322, R323). -/
def raise (e : CmdError) (s : State) : Host.Outcome State Fault Refusal := .next (s.finish e.code)

/-- The completion of an ILLEGAL word (R111, R233): no effects, and code 5. -/
def completeIllegal (s : State) : Host.Outcome State Fault Refusal := raise .illegalCommand s

/-! ### Bus transactions -/

/-- The word a read of a location returns while no gating applies (R40 to R56). -/
def State.readLoc (s : State) : Loc → Word
  | .id => 0x42464B53#32
  | .version => 0x00000100#32
  | .config => BitVec.ofNat 32 s.cfg.msgMax
  | .ctlen => BitVec.ofNat 32 s.cfg.ctLen
  | .cmd => 0#32
  | .status => s.status.word s.busy
  | .irqen => s.irqen.word
  | .keylen => s.keylen.setWidth 32
  | .msglen => s.msglen
  | .outlen => s.outlen
  | .xl => s.xl
  | .xr => s.xr
  | .fout => s.fout
  | .key w => s.key[w]
  | .p i => if s.keyed then s.cipher.p[i] else 0#32
  | .s k j => if s.keyed then s.cipher.s[k][j] else 0#32
  | .inWord w => be32 (s.inByte (4 * w)) (s.inByte (4 * w + 1)) (s.inByte (4 * w + 2)) (s.inByte (4 * w + 3))
  | .outWord w => be32 (s.outByte (4 * w)) (s.outByte (4 * w + 1)) (s.outByte (4 * w + 2)) (s.outByte (4 * w + 3))

/-- `MemRead` at an offset (R82): a misaligned or reserved offset gets ERROR and data 0 (log entry 13); a busy-gated location
reads 0 while BUSY = 1 (R92). A read changes no state. -/
def State.busRead (s : State) (off : Offset) : Response × Word :=
  match locate s.cfg.msgMax off with
  | .misaligned => (.error, 0#32)
  | .reserved => (.error, 0#32)
  | .loc l => (.okay, if s.busy && l.busyGated then 0#32 else s.readLoc l)

/-- What an accepted write does at a location (R83 step 5). The read-only locations are answered before (R89) and would
change nothing. -/
def State.writeLoc (s : State) (v : Word) : Loc → State
  | .cmd => s.launch v
  | .status => { s with status := s.status.writeOneToClear v }
  | .irqen => { s with irqen := IrqEnables.ofWord v }
  | .keylen => { s with keylen := v.setWidth 8 }
  | .msglen => { s with msglen := v }
  | .xl => { s with xl := v }
  | .xr => { s with xr := v }
  | .key w => { s with key := s.key.set w v }
  | .inWord w => { s with inBuf := s.inBuf.writeAll (4 * w) (bytes32 v) }
  | .id | .version | .config | .ctlen | .outlen | .fout | .p _ | .s _ _ | .outWord _ => s

/-- A write dropped because BUSY = 1 (R91): OVR is set, and nothing else changes. -/
def State.dropWrite (s : State) : State := { s with status := { s.status with ovr := true } }

/-- `MemWrite` at an offset, decoded in the order of R83. -/
def State.busWrite (s : State) (off : Offset) (v : Word) : Response × State :=
  match locate s.cfg.msgMax off with
  | .misaligned => (.error, s)
  | .reserved => (.error, s)
  | .loc l =>
    if l.readOnly then (.error, s)
    else if s.busy && l.busyLocked then (.okay, s.dropWrite)
    else (.okay, s.writeLoc v l)

/-- `MemRead(addr, 4)` at a platform address (R14, R80). -/
def State.memRead (s : State) (addr : Nat) : Response × Word := s.busRead (offsetOf addr)

/-- `MemWrite(addr, 4, v)` at a platform address (R14, R80). -/
def State.memWrite (s : State) (addr : Nat) (v : Word) : Response × State := s.busWrite (offsetOf addr) v

/-! ### Reset, and whose turn it is -/

/-- A reset event (R237, R400, R402): BF-CORE takes the state of R400 whatever was in flight. The configuration and the host
agent are not BF-CORE's to reset, and the event is taken off the schedule (log entry 7). -/
def State.blockReset (s : State) : State :=
  { State.reset with
    cfg := s.cfg
    host := s.host
    resetSchedule := s.resetSchedule.tail
    launches := s.launches
    resets := s.resets + 1 }

/-- One step passes before the next reset event (log entry 7). -/
def State.tick (s : State) : State :=
  { s with
    resetSchedule :=
      match s.resetSchedule with
      | [] => []
      | n :: rest => (n - 1) :: rest }

/-- The statement the host stands at. -/
def HostAgent.current (h : HostAgent) : Option Stmt := h.program[h.pos]?

/-- The host has a statement to run: it has not reached `halt` or the end of its program (R123). -/
def HostAgent.active (h : HostAgent) : Bool :=
  match h.current with
  | none => false
  | some .halt => false
  | some (.wr _ _) | some (.rd _) | some (.label _) | some (.bit1 _ _) | some (.bit0 _ _) | some (.expect _) => true

/-- The agent whose step is next (R235): a reset event that is due, else the engine when its draw has run out or the host has
nothing left to run (weak fairness, R234), else the host (log entries 5, 6, 7). -/
def State.turn (s : State) : Turn :=
  match s.resetSchedule with
  | 0 :: _ => .reset
  | [] | (_ + 1) :: _ =>
    match s.latch with
    | none => .host
    | some l => if l.wait = 0 || !s.host.active then .engine l.cmd else .host

/-- One host step of the latency draw passes (R234; log entry 5). -/
def State.spend (s : State) : State :=
  { s with latch := s.latch.map fun l => { l with wait := l.wait - 1 } }

end Sys2Proof.Machine
end

