-- ==== Sys2Proof/Machine/Control.lean ====
section
/-! DEFINITION. The NOP command (43_control.md R240). -/

namespace Sys2Proof.Machine

/-- NOP (R240): no effect but the completion. -/
def execNop (s : State) : Host.Outcome State Fault Refusal := succeed s

end Sys2Proof.Machine
end

