-- ==== Sys2Proof/Machine/Feistel.lean ====
section
/-! DEFINITION. The Feistel round processor: F, EncBlock, DecBlock, and the commands ENCB, DECB and FEVAL (41_feistel.md). -/

namespace Sys2Proof.Machine

/-- `S[k][j]` for a byte index `j` (R13, R160). -/
def CipherState.sbox (c : CipherState) (k : Fin 4) (j : Byte) : Word := c.s[k][j.toNat]'j.isLt

/-- The round function `F(S, x)` (R160), with wrapping sums (R161). -/
def CipherState.f (c : CipherState) (x : Word) : Word :=
  ((c.sbox 0 (byteOf x 0) + c.sbox 1 (byteOf x 1)) ^^^ c.sbox 2 (byteOf x 2)) + c.sbox 3 (byteOf x 3)

/-- The two halves exchanged. -/
def Block.swap (b : Block) : Block := { xl := b.xr, xr := b.xl }

/-- One round with P word `i`, its swap included (R162, R164). -/
def CipherState.round (c : CipherState) (b : Block) (i : Fin 18) : Block :=
  let xl := b.xl ^^^ c.p[i]
  let xr := b.xr ^^^ c.f xl
  Block.swap { xl := xl, xr := xr }

/-- The P index of each round of encryption (R162): round r uses P[r]. -/
def encOrder : List (Fin 18) := [0, 1, 2, 3, 4, 5, 6, 7, 8, 9, 10, 11, 12, 13, 14, 15]

/-- The P index of each round of decryption (R164): 17 down to 2. -/
def decOrder : List (Fin 18) := [17, 16, 15, 14, 13, 12, 11, 10, 9, 8, 7, 6, 5, 4, 3, 2]

/-- 16 rounds, the final swap undone, then the output whitening of `xr` and of `xl`, in that order (R162 to R164). -/
def CipherState.crypt (c : CipherState) (order : List (Fin 18)) (whitenR whitenL : Fin 18) (b : Block) : Block :=
  let u := (order.foldl c.round b).swap
  { xl := u.xl ^^^ c.p[whitenL], xr := u.xr ^^^ c.p[whitenR] }

/-- `EncBlock` (R162, R163): `xr` is whitened with P[16] and `xl` with P[17]. -/
def CipherState.encBlock (c : CipherState) (b : Block) : Block := c.crypt encOrder 16 17 b

/-- `DecBlock` (R164): `xr` is whitened with P[1] and `xl` with P[0]. -/
def CipherState.decBlock (c : CipherState) (b : Block) : Block := c.crypt decOrder 1 0 b

/-- ENCB (R170). -/
def execEncb (s : State) : Host.Outcome State Fault Refusal :=
  let o := s.operands
  if o.keyed then
    let b := o.cipher.encBlock { xl := o.xl, xr := o.xr }
    succeed { s with xl := b.xl, xr := b.xr }
  else raise .notKeyed s

/-- DECB (R172). -/
def execDecb (s : State) : Host.Outcome State Fault Refusal :=
  let o := s.operands
  if o.keyed then
    let b := o.cipher.decBlock { xl := o.xl, xr := o.xr }
    succeed { s with xl := b.xl, xr := b.xr }
  else raise .notKeyed s

/-- FEVAL (R175). -/
def execFeval (s : State) : Host.Outcome State Fault Refusal :=
  let o := s.operands
  if o.keyed then succeed { s with fout := o.cipher.f o.xl }
  else raise .notKeyed s

end Sys2Proof.Machine
end

