-- ==== Sys2Proof/Machine/Ecb.lean ====
section
/-! DEFINITION. The ECB message wrapper, and the commands ENCM and DECM (42_ecb.md). -/

namespace Sys2Proof.Machine

/-- `PadLen(n)` (R200): the empty message is padded to one block. -/
def padLen (n : Nat) : Nat := if n = 0 then 8 else 8 * ((n + 7) / 8)

/-- `Pad(m)` (R201): bytes of 0x00 at the end, up to the padded length. -/
def pad (m : List Byte) : List Byte := m ++ List.replicate (padLen m.length - m.length) 0#8

/-- `Strip(r)` (R202): every trailing 0x00 byte removed, across block boundaries, and no other. -/
def strip : List Byte → List Byte
  | [] => []
  | b :: rest =>
    match strip rest with
    | [] => if b = 0#8 then [] else [b]
    | c :: r => b :: c :: r

/-- The 8 bytes of a block (R85). -/
def Block.bytes (b : Block) : List Byte := bytes32 b.xl ++ bytes32 b.xr

/-- ECB iteration (R203): each group of 8 bytes is a block (R85), transformed on its own and put back in its place. -/
def mapBlocks (f : Block → Block) : List Byte → List Byte
  | b0 :: b1 :: b2 :: b3 :: b4 :: b5 :: b6 :: b7 :: rest =>
    (f { xl := be32 b0 b1 b2 b3, xr := be32 b4 b5 b6 b7 }).bytes ++ mapBlocks f rest
  | _ => []

/-- The OUT write policy (R204): the result, then 0x00 up to `MSG_MAX`, and the result's length after stripping in OUTLEN. -/
def State.writeResult (s : State) (r : List Byte) (len : Nat) : State :=
  { s with
    outBuf := Memory.ofBytes 0 (r ++ List.replicate (s.cfg.msgMax - r.length) 0#8)
    outlen := BitVec.ofNat 32 len }

/-- ENCM (R210). -/
def execEncm (s : State) : Host.Outcome State Fault Refusal :=
  let o := s.operands
  if o.keyed then
    if s.cfg.msgMax < o.msglen.toNat then raise .lengthOverflow s
    else
      let r := mapBlocks o.cipher.encBlock (pad s.message)
      succeed (s.writeResult r r.length)
  else raise .notKeyed s

/-- DECM (R220), with its checks in the order of R310. -/
def execDecm (s : State) : Host.Outcome State Fault Refusal :=
  let o := s.operands
  if o.keyed then
    if s.cfg.msgMax < o.msglen.toNat then raise .lengthOverflow s
    else if o.msglen.toNat % 8 ≠ 0 then raise .invalidCiphertextLength s
    else
      let r := mapBlocks o.cipher.decBlock s.message
      succeed (s.writeResult r (strip r).length)
  else raise .notKeyed s

end Sys2Proof.Machine
end

