-- ==== Sys2Proof/Machine/KeySchedule.lean ====
section
/-! DEFINITION. The key schedule: its three steps, and the commands KSCHED and CLRKEY (40_key_schedule.md). -/

namespace Sys2Proof.Machine

/-- Byte `n` of the constant table. KSCHED reads it only where the table has it (R133); past its end this answers 0
(log entry 19). -/
def ctByte (ct : List Byte) (n : Nat) : Byte := ct.getD n 0#8

/-- Word `m` of the constant table (R86, R135). -/
def ctWord (ct : List Byte) (m : Nat) : Word :=
  be32 (ctByte ct (4 * m)) (ctByte ct (4 * m + 1)) (ctByte ct (4 * m + 2)) (ctByte ct (4 * m + 3))

/-- Step 1, `InitFromTable`, in the closed form of R135: P first, then S[0] to S[3], in the words of the table. -/
def initFromTable (ct : List Byte) : CipherState where
  p := Vector.ofFn fun i => ctWord ct i
  s := Vector.ofFn fun k => Vector.ofFn fun j => ctWord ct (18 + 256 * k + j)

/-- The key word of R136 for P word `i`: byte `j` is key byte `(4i + j) mod L`. -/
def keyWord (key : Vector Word 14) (len i : Nat) : Word :=
  be32 (keyByte key ((4 * i) % len)) (keyByte key ((4 * i + 1) % len)) (keyByte key ((4 * i + 2) % len))
    (keyByte key ((4 * i + 3) % len))

/-- Step 2, `KeyMix` (R136). The S-boxes are not key-mixed. -/
def keyMix (c : CipherState) (key : Vector Word 14) (len : Nat) : CipherState :=
  { c with p := Vector.ofFn fun i => c.p[i] ^^^ keyWord key len i }

/-- A pair of slots that one bootstrap invocation fills (R137): P[2i], P[2i+1], or S[k][2j], S[k][2j+1]. -/
inductive Slot where
  | p (i : Fin 9)
  | s (k : Fin 4) (j : Fin 128)
  deriving DecidableEq, Repr

/-- The order of the bootstrap (R137): all of P, then S[0], S[1], S[2], S[3]. -/
def bootOrder : List Slot :=
  (List.finRange 9).map Slot.p ++ (List.finRange 4).flatMap fun k => (List.finRange 128).map (Slot.s k)

/-- The bootstrap's working state: P' and S', and the accumulator (ACC_L, ACC_R) of R59. -/
structure Boot where
  cipher : CipherState
  acc : Block
  deriving DecidableEq, Repr

/-- Overwrite the two words of a slot. -/
def CipherState.fill (c : CipherState) (slot : Slot) (b : Block) : CipherState :=
  match slot with
  | .p i => { c with p := (c.p.set (2 * i.val) b.xl (by omega)).set (2 * i.val + 1) b.xr (by omega) }
  | .s k j => { c with s := c.s.set k ((c.s[k].set (2 * j.val) b.xl (by omega)).set (2 * j.val + 1) b.xr (by omega)) }

/-- One invocation (R137): the accumulator is encrypted under P' and S' as they stand, and the result is both the new
accumulator and the two words of the slot. -/
def Boot.step (b : Boot) (slot : Slot) : Boot :=
  let acc := b.cipher.encBlock b.acc
  { cipher := b.cipher.fill slot acc, acc := acc }

/-- Step 3, `Bootstrap` (R137): strictly in order (R15, R414), from the accumulator (0, 0). -/
def bootstrap (c : CipherState) : CipherState :=
  (bootOrder.foldl Boot.step { cipher := c, acc := { xl := 0#32, xr := 0#32 } }).cipher

/-- The whole key schedule (R130, R131). -/
def deriveCipher (ct : List Byte) (key : Vector Word 14) (len : Nat) : CipherState :=
  bootstrap (keyMix (initFromTable ct) key len)

/-- The CipherState that CLRKEY leaves (R140). -/
def CipherState.zero : CipherState where
  p := Vector.replicate 18 0#32
  s := Vector.replicate 4 (Vector.replicate 256 0#32)

/-- KSCHED (R131), with its checks in the order of R132 and R133. -/
def execKsched (s : State) : Host.Outcome State Fault Refusal :=
  let o := s.operands
  let len := o.keylen.toNat
  if len < 4 ∨ 56 < len then raise .invalidKeyLength s
  else if s.cfg.ctLen < 4168 then raise .insufficientConstantData s
  else succeed { s with cipher := deriveCipher s.cfg.constTable o.key len, status := { s.status with keyed := true } }

/-- CLRKEY (R140). -/
def execClrkey (s : State) : Host.Outcome State Fault Refusal :=
  succeed { s with cipher := CipherState.zero, status := { s.status with keyed := false } }

end Sys2Proof.Machine
end

