-- ==== Sys2Proof/Machine/Dispatch.lean ====
section
/-! DEFINITION. One arm per command: `Exec(cmd, state)` of 43_control.md R233 with the completion that applies it. -/

namespace Sys2Proof.Machine

/-- The completion of the command `i` in the state `s` (R233). -/
def exec (i : Instr) (s : State) : Host.Outcome State Fault Refusal :=
  match i with
  | .nop => Sys2Proof.Machine.execNop s
  | .ksched => Sys2Proof.Machine.execKsched s
  | .encb => Sys2Proof.Machine.execEncb s
  | .decb => Sys2Proof.Machine.execDecb s
  | .encm => Sys2Proof.Machine.execEncm s
  | .decm => Sys2Proof.Machine.execDecm s
  | .feval => Sys2Proof.Machine.execFeval s
  | .clrkey => Sys2Proof.Machine.execClrkey s

end Sys2Proof.Machine
end

