-- ==== Sys2Proof/Machine/HostProgram.lean ====
section
/-! DEFINITION. The host agent: one step of a host program (30_encoding.md R121), and the pseudo-statements (R122). -/

namespace Sys2Proof.Machine

/-- Go on to the next statement. -/
def HostAgent.advance (h : HostAgent) : HostAgent := { h with pos := h.pos + 1 }

/-- Where a label stands in a program: it names the statement after it (R121). -/
def labelPosition (prog : List Stmt) (name : Nat) : Option Nat := prog.findIdx? (· == .label name)

/-- Continue at a label (R121); the fault is that of log entry 11. -/
def HostAgent.jump (h : HostAgent) (name : Nat) : Except Fault HostAgent :=
  match labelPosition h.program name with
  | some n => .ok { h with pos := n }
  | none => .error (.undefinedLabel name)

/-- A statement internal to the host (R121) leaves BF-CORE alone. -/
def State.withHost (s : State) (h : Except Fault HostAgent) : Host.Outcome State Fault Refusal :=
  match h with
  | .ok h => .next { s with host := h }
  | .error e => .fault e

/-- One statement of the host assembly (R121). -/
def hostExec (st : Stmt) (s : State) : Host.Outcome State Fault Refusal :=
  match st with
  | .wr off v =>
    let r := s.busWrite off v
    .next { r.2 with
      host := { s.host.advance with trace := ⟨.write off v, r.1, none⟩ :: s.host.trace } }
  | .rd off =>
    let r := s.busRead off
    .next { s with
      host := { s.host.advance with t := r.2, trace := ⟨.read off, r.1, some r.2⟩ :: s.host.trace } }
  | .label _ => s.withHost (.ok s.host.advance)
  | .bit1 b name => s.withHost (if s.host.t.getLsbD b then s.host.jump name else .ok s.host.advance)
  | .bit0 b name => s.withHost (if s.host.t.getLsbD b then .ok s.host.advance else s.host.jump name)
  | .expect v => s.withHost (.ok { s.host.advance with failed := s.host.failed || s.host.t != v })
  | .halt => .next s

/-- The host's step (R235): its next statement, or nothing once its program has ended (R123, R401). -/
def hostStep (s : State) : Host.Outcome State Fault Refusal :=
  match s.host.current with
  | none => .next s
  | some st => hostExec st s.spend

/-! ### Pseudo-statements (R122) -/

/-- `MNEMONIC` alone: `wr CMD, <word of R112>`. -/
def asmCommand (i : Instr) : List Stmt := [.wr (Loc.offset .cmd) (encode i)]

/-- `waitidle`, with the label it uses. -/
def asmWaitidle (name : Nat) : List Stmt := [.label name, .rd (Loc.offset .status), .bit1 0 name]

/-- `run MNEMONIC`. -/
def asmRun (i : Instr) (name : Nat) : List Stmt := asmCommand i ++ asmWaitidle name

/-- Word `w` of a byte sequence, its missing bytes taken as 0x00. -/
def packedWord (bytes : List Byte) (w : Nat) : Word :=
  be32 (bytes.getD (4 * w) 0#8) (bytes.getD (4 * w + 1) 0#8) (bytes.getD (4 * w + 2) 0#8) (bytes.getD (4 * w + 3) 0#8)

/-- The writes of a byte sequence to consecutive words from an offset on. -/
def asmPacked (base : Nat) (bytes : List Byte) : List Stmt :=
  (List.range ((bytes.length + 3) / 4)).map fun w => .wr (BitVec.ofNat 16 (base + 4 * w)) (packedWord bytes w)

/-- `setkey b0 ... b(n-1)`. KEY has 14 words (R47), so R122 gives no `wr KEY[w]` for more than 56 bytes: there the offsets go on as
0x0040 + 4w, and an n that does not fit `wr KEYLEN`'s imm32 is written modulo 2^32. DESIGN CHOICE (log entry 20). -/
def asmSetkey (bytes : List Byte) : List Stmt :=
  asmPacked 0x0040 bytes ++ [.wr (Loc.offset .keylen) (BitVec.ofNat 32 bytes.length)]

/-- `setin b0 ... b(n-1)`: `IN[w]` is offset 0x2000 + 4w (R120). Where that needs more than 16 bits it wraps, and an n that
does not fit `wr MSGLEN`'s imm32 is written modulo 2^32: DESIGN CHOICE (log entry 20). -/
def asmSetin (bytes : List Byte) : List Stmt :=
  asmPacked 0x2000 bytes ++ [.wr (Loc.offset .msglen) (BitVec.ofNat 32 bytes.length)]

/-- `clrst`: clear DONE, ERR and OVR. -/
def asmClrst : List Stmt := [.wr (Loc.offset .status) 0x0000000E#32]

end Sys2Proof.Machine
end

