-- ==== Sys2Proof/Machine/Step.lean ====
section
/-! DEFINITION. One step of the model (43_control.md R235): the step of the agent whose turn it is. -/

namespace Sys2Proof.Machine

/-- The step relation of R235 as a function: State says which agent moves (log entry 6). -/
def step (s : State) : Host.Outcome State Fault Refusal :=
  match s.turn with
  | .reset => .next s.blockReset
  | .engine (.op i) => exec i s.tick
  | .engine .illegal => completeIllegal s.tick
  | .host => hostStep s.tick

/-- `s` with the command word launched and its completion next (log entry 12): what a write of the word to CMD leaves (R231), with a
draw of 0 host steps and no reset event to come. -/
def State.withFetchWord (s : State) (nbits w : Nat) : State :=
  { s.launchWith 0 (BitVec.ofNat 32 (w % 2 ^ nbits)) with resetSchedule := [] }

end Sys2Proof.Machine
end

