-- ==== Sys2Proof/Safety.lean ====
section
/-! DEFINITION. What a safe run is, and when a claim may speak of a command's outputs. -/

namespace Sys2Proof.Machine

/-- Every label the host's program may continue at is one it defines (R121): what the model's one fault needs. -/
def State.labelsOk (s : State) : Prop := labelsDefined s.host.program = true

/-- A run that never stops: after every number of steps there is a state. -/
def SafeRun (s : State) : Prop := ∀ k : Nat, ∃ t : State, Sys2Proof.core.run k s = .next t

/-- The host has reached its `halt` (R123): it stands at that statement, which takes no step of its own. DESIGN CHOICE
(log entry 21). -/
def State.halted (s : State) : Prop := s.host.current = some .halt

/-- The end state of a program a claim may speak of (R123, R410; I17): at `halt` with no command in flight. It looks at the state
alone: after a `halt` reached with BUSY = 1, it holds from the later completion on, of which R123 does not speak. DESIGN CHOICE
(log entry 21). -/
def State.endDefined (s : State) : Prop := s.halted ∧ s.busy = false

end Sys2Proof.Machine
end

