-- ==== Sys2Proof/Certificates/Slice0/Obligations.lean ====
section
/-! DEFINITION. The statements about the model. -/

open Sys2Proof Sys2Proof.Machine

namespace Sys2Proof.Spec

/-- The STATUS update of a completion (43_control.md R233), on a state that has its command's writes. -/
def completed (s : State) (code : BitVec 4) : State :=
  { s with
    latch := none
    status := { done := true, err := decide (code ≠ 0#4), ovr := s.status.ovr, keyed := s.status.keyed, errcode := code } }

/-- The values of the table of R400 (70_reset_and_hazards.md), where it gives one. -/
def IsReset (t : State) : Prop :=
  t.busy = false ∧ t.latch = none ∧ t.irq = false ∧
  t.status = { done := false, err := false, ovr := false, keyed := false, errcode := 0#4 } ∧
  t.irqen = { doneie := false, errie := false, ovrie := false } ∧
  t.keylen = 0#8 ∧ t.msglen = 0#32 ∧ t.outlen = 0#32 ∧ t.xl = 0#32 ∧ t.xr = 0#32 ∧ t.fout = 0#32 ∧
  (∀ w : Fin 14, t.key[w] = 0#32) ∧
  t.readLoc .id = 0x42464B53#32 ∧ t.readLoc .version = 0x00000100#32 ∧
  t.readLoc .config = BitVec.ofNat 32 t.cfg.msgMax ∧ t.readLoc .ctlen = BitVec.ofNat 32 t.cfg.constTable.length

/-- `KEYB(n)` as R47 (10_state.md) writes it: bits `[31 - 8*(n mod 4) : 24 - 8*(n mod 4)]` of `KEY[n div 4]`, for n < 56. -/
def keyB (key : Vector Word 14) (n : Nat) (h : n < 56) : Byte :=
  (key[n / 4]'(by omega) >>> (24 - 8 * (n % 4))).setWidth 8

/-- `n` big-endian words read one after another with one cursor (R135). -/
def readWords : Nat → List Byte → List Word
  | n + 1, b0 :: b1 :: b2 :: b3 :: rest => be32 b0 b1 b2 b3 :: readWords n rest
  | _, _ => []

/-- `c'` is `c` with P[2i] and P[2i+1] overwritten by the halves of `a` (R137). -/
def FillsP (c c' : CipherState) (i : Nat) (a : Block) : Prop :=
  (∀ (n : Nat) (h : n < 18), c'.p[n] = if n = 2 * i then a.xl else if n = 2 * i + 1 then a.xr else c.p[n]) ∧ c'.s = c.s

/-- `c'` is `c` with S[k][2j] and S[k][2j+1] overwritten by the halves of `a` (R137). -/
def FillsS (c c' : CipherState) (k j : Nat) (a : Block) : Prop :=
  c'.p = c.p ∧
  ∀ (m n : Nat) (hm : m < 4) (hn : n < 256),
    c'.s[m][n] =
      if m = k ∧ n = 2 * j then a.xl else if m = k ∧ n = 2 * j + 1 then a.xr else c.s[m][n]

/-- `IN[n]` as the command in flight reads it (R232). -/
def inputByte (s : State) (n : Nat) : Byte := readIn s.resets s.operands.inBuf n

/-- The padded message byte `q[n]` of R210: the message, then 0x00. -/
def paddedByte (s : State) (n : Nat) : Byte :=
  if n < s.operands.msglen.toNat then inputByte s n else 0#8

/-- The block that starts at byte `8b` of a byte sequence (R85, R203). -/
def blockAt (q : Nat → Byte) (b : Nat) : Block :=
  { xl := be32 (q (8 * b)) (q (8 * b + 1)) (q (8 * b + 2)) (q (8 * b + 3)),
    xr := be32 (q (8 * b + 4)) (q (8 * b + 5)) (q (8 * b + 6)) (q (8 * b + 7)) }

/-- The code R310 (60_exceptions.md) has each command report: the first of its conditions in that order, else 0. -/
def reportedCode (i : Instr) (s : State) : BitVec 4 :=
  let n := s.operands.msglen.toNat
  let len := s.operands.keylen.toNat
  let unkeyed := s.operands.keyed = false
  match i with
  | .nop => 0#4
  | .clrkey => 0#4
  | .ksched => if len < 4 ∨ 56 < len then 1#4 else if s.cfg.constTable.length < 4168 then 3#4 else 0#4
  | .encb => if unkeyed then 4#4 else 0#4
  | .decb => if unkeyed then 4#4 else 0#4
  | .feval => if unkeyed then 4#4 else 0#4
  | .encm => if unkeyed then 4#4 else if s.cfg.msgMax < n then 6#4 else 0#4
  | .decm => if unkeyed then 4#4 else if s.cfg.msgMax < n then 6#4 else if n % 8 ≠ 0 then 2#4 else 0#4

/-- A state with its P and S, and the latched copy of them, put out of sight. -/
def withoutCipher (s : State) : State :=
  { s with
    cipher := CipherState.zero
    latch := s.latch.map fun l => { l with snapshot := { l.snapshot with cipher := CipherState.zero } } }

/-- Memory in canonical form, with no cell at or past `MSG_MAX`. -/
def MemoryOk (s : State) : Prop :=
  s.cfg.wf = true ∧ s.inBuf.wf ∧ s.outBuf.wf ∧
  (∀ c ∈ s.inBuf, c.1 < s.cfg.msgMax) ∧ (∀ c ∈ s.outBuf, c.1 < s.cfg.msgMax)

/-- ERRCODE is a code of R300, ERR says whether it is 0, and DONE and ERR are 0 while a command is in flight (R231). -/
def StatusOk (s : State) : Prop :=
  s.status.errcode.toNat ≤ 6 ∧ (s.status.err = true ↔ s.status.errcode ≠ 0#4) ∧
  (s.busy = true → s.status.done = false ∧ s.status.err = false)

/-- The latched inputs are the registers' own contents (R232). -/
def LatchOk (s : State) : Prop := ∀ l, s.latch = some l → l.snapshot = s.inputs

/-- While KEYED = 1, P and S are the key schedule of some key of legal length (R35, R130). -/
def CipherOk (s : State) : Prop :=
  s.status.keyed = true →
    4168 ≤ s.cfg.constTable.length ∧
    ∃ (key : Vector Word 14) (len : Nat), 4 ≤ len ∧ len ≤ 56 ∧ s.cipher = deriveCipher s.cfg.constTable key len

/-- OUTLEN is at most MSG_MAX, and either OUT has not been written since reset and OUTLEN is 0, or every OUT byte at or past
OUTLEN is 0x00 (R50, R204). -/
def OutOk (s : State) : Prop :=
  s.cfg.wf = true ∧ s.outlen.toNat ≤ s.cfg.msgMax ∧
  ((s.outBuf = [] ∧ s.outlen = 0#32) ∨ ∀ n, s.outlen.toNat ≤ n → n < s.cfg.msgMax → s.outByte n = 0#8)

end Sys2Proof.Spec

open Sys2Proof.Spec

/-! ### Reset -/

/-- R400: what reset leaves, at power-up and at every reset, whatever was in flight; the constants are not affected. -/
def Obligations.ResetLeavesTheResetState : Prop :=
  IsReset State.reset ∧ ∀ s : State, IsReset s.blockReset ∧ s.blockReset.cfg = s.cfg

/-- R401, R402: out of reset BF-CORE is idle and does no work, so with no host program nothing changes (the empty program is the
model's choice, log entry 18); and a reset event that is due is the next step (its schedule is the model's choice, log entry 7). -/
def Obligations.ResetStateIsIdleAndResetEventsAreTaken : Prop :=
  State.reset.turn = .host ∧ step State.reset = .next State.reset ∧
  ∀ (s : State) (later : List Nat), s.resetSchedule = 0 :: later →
    ∃ t, step s = .next t ∧ IsReset t ∧ t.cfg = s.cfg ∧ t.host = s.host ∧ t.resetSchedule = later

/-! ### Encodings -/

/-- R113: the decoder, on every 32-bit word. -/
def Obligations.DecodeOfEveryWord : Prop :=
  ∀ w : Word,
    (w = 0x00000000#32 → decode w = .op .nop) ∧ (w = 0x00000001#32 → decode w = .op .ksched) ∧
    (w = 0x00000002#32 → decode w = .op .encb) ∧ (w = 0x00000003#32 → decode w = .op .decb) ∧
    (w = 0x00000004#32 → decode w = .op .encm) ∧ (w = 0x00000005#32 → decode w = .op .decm) ∧
    (w = 0x00000006#32 → decode w = .op .feval) ∧ (w = 0x00000007#32 → decode w = .op .clrkey) ∧
    (decode w = .illegal ↔ w.extractLsb' 8 24 ≠ 0#24 ∨ 8 ≤ (w.extractLsb' 0 8).toNat)

/-- Decode and encode agree in both directions: a word decodes to a command exactly when it is that command's word. -/
def Obligations.DecodeAgreesWithEncode : Prop :=
  ∀ (w : Word) (i : Instr), i.wf = true → (decode w = .op i ↔ w = encode i)

/-- A few words written out from R112's table. -/
def Obligations.DecodeOfWrittenWords : Prop :=
  decode 0b00000000000000000000000000000001#32 = .op .ksched ∧
  decode 0b00000000000000000000000000000100#32 = .op .encm ∧
  decode 0b00000000000000000000000000000110#32 = .op .feval ∧
  decode 0b00000000000000000000000000001000#32 = .illegal ∧
  decode 0b10000000000000000000000000000010#32 = .illegal

/-- The register map is unambiguous: a location that the block has is found at its own offset, and whatever is found at an
offset is a location that the block has, whose offset is that one. -/
def Obligations.RegisterMapRoundTrip : Prop :=
  ∀ c : Config, c.wf = true →
    (∀ l : Loc, l.wf c = true → locate c.msgMax l.offset = .loc l) ∧
    (∀ (off : Offset) (l : Loc), locate c.msgMax off = .loc l → l.offset = off ∧ l.wf c = true)

/-! ### The bus -/

/-- R87, R88: a misaligned access, and an access to a reserved or unmapped offset: those of the map of R37 and those of IN and OUT at
or past MSG_MAX. -/
def Obligations.MisalignedOrReservedAccessIsAnError : Prop :=
  ∀ (s : State) (off : Offset) (v : Word),
    (off.toNat % 4 ≠ 0 → s.busRead off = (.error, 0#32) ∧ s.busWrite off v = (.error, s)) ∧
    (s.cfg.wf = true →
      (0x34 ≤ off.toNat ∧ off.toNat < 0x40 ∨ 0x78 ≤ off.toNat ∧ off.toNat < 0x80 ∨
        0xC8 ≤ off.toNat ∧ off.toNat < 0x1000 ∨ 0x2000 + s.cfg.msgMax ≤ off.toNat ∧ off.toNat < 0x3000 ∨
        0x3000 + s.cfg.msgMax ≤ off.toNat ∧ off.toNat < 0x4000 ∨ 0x4000 ≤ off.toNat) →
      s.busRead off = (.error, 0#32) ∧ s.busWrite off v = (.error, s))

/-- R89: a write to a read-only location; and a write to CMD is never an error at the bus level. -/
def Obligations.ReadOnlyWriteIsAnError : Prop :=
  ∀ (s : State) (v : Word) (l : Loc), s.cfg.wf = true → l.wf s.cfg = true →
    (l = .id ∨ l = .version ∨ l = .config ∨ l = .ctlen ∨ l = .outlen ∨ l = .fout ∨ (∃ i, l = .p i) ∨
      (∃ k j, l = .s k j) ∨ (∃ w, l = .outWord w) → s.busWrite l.offset v = (.error, s)) ∧
    (l = .cmd → (s.busWrite l.offset v).1 = .okay)

/-- R91: while BUSY = 1 a write to a busy-locked location is dropped and sets OVR, so no write changes the inputs of the command
in flight; a write to STATUS or IRQEN takes effect. -/
def Obligations.BusyLockedWriteIsDropped : Prop :=
  ∀ (s : State) (v : Word) (l : Loc), s.cfg.wf = true → l.wf s.cfg = true → s.busy = true →
    (l = .cmd ∨ l = .keylen ∨ l = .msglen ∨ l = .xl ∨ l = .xr ∨ (∃ w, l = .key w) ∨ (∃ w, l = .inWord w) →
      s.busWrite l.offset v = (.okay, { s with status := { s.status with ovr := true } })) ∧
    (s.busWrite l.offset v).2.inputs = s.inputs ∧ (s.busWrite l.offset v).2.latch = s.latch ∧
    (l = .status → s.busWrite l.offset v = (.okay, { s with status := s.status.writeOneToClear v })) ∧
    (l = .irqen → s.busWrite l.offset v =
      (.okay, { s with irqen := { doneie := v.getLsbD 0, errie := v.getLsbD 1, ovrie := v.getLsbD 2 } }))

/-- R92: while BUSY = 1 a busy-gated location reads 0, and the others read their normal values. While BUSY = 0 every location reads
its normal value (R82 step 3). The normal values of the registers are written out (R40 to R42, R45 to R52); STATUS, the P and S
windows, and IN and OUT have statements of their own. -/
def Obligations.BusyGatedReadIsZero : Prop :=
  ∀ (s : State) (l : Loc), s.cfg.wf = true → l.wf s.cfg = true →
    (s.busy = true →
      (l = .outlen ∨ l = .xl ∨ l = .xr ∨ l = .fout ∨ (∃ i, l = .p i) ∨ (∃ k j, l = .s k j) ∨ (∃ w, l = .outWord w) →
        s.busRead l.offset = (.okay, 0#32)) ∧
      (l = .id ∨ l = .version ∨ l = .config ∨ l = .ctlen ∨ l = .cmd ∨ l = .status ∨ l = .irqen ∨ l = .keylen ∨
        l = .msglen ∨ (∃ w, l = .key w) ∨ (∃ w, l = .inWord w) → s.busRead l.offset = (.okay, s.readLoc l))) ∧
    (s.busy = false → s.busRead l.offset = (.okay, s.readLoc l)) ∧
    s.readLoc .id = 0x42464B53#32 ∧ s.readLoc .version = 0x00000100#32 ∧
    (s.readLoc .config).toNat = s.cfg.msgMax ∧ s.readLoc .ctlen = BitVec.ofNat 32 s.cfg.constTable.length ∧
    s.readLoc .cmd = 0#32 ∧ s.readLoc .keylen = BitVec.ofNat 32 s.keylen.toNat ∧ s.readLoc .msglen = s.msglen ∧
    s.readLoc .outlen = s.outlen ∧ s.readLoc .xl = s.xl ∧ s.readLoc .xr = s.xr ∧ s.readLoc .fout = s.fout ∧
    (∀ w : Fin 14, s.readLoc (.key w) = s.key[w])

/-- R80: BF-CORE does not see address bits above bit 15, whatever window BASE is. -/
def Obligations.BusDecodesLowAddressBits : Prop :=
  ∀ (s : State) (off : Offset) (v : Word),
    s.memRead (Config.base + off.toNat) = s.busRead off ∧ s.memWrite (Config.base + off.toNat) v = s.busWrite off v

/-- R43: the bits of the word a read of STATUS returns; what a write of STATUS clears, and that it changes nothing else (R38: its
other bits are ignored). -/
def Obligations.StatusReadsItsFieldsAndClearsNamedFlags : Prop :=
  ∀ s : State,
    (∀ n : Nat, s.busRead 0x0014#16 = (.okay, s.readLoc .status) ∧
      (s.readLoc .status).getLsbD n =
        if n = 0 then s.busy else if n = 1 then s.status.done else if n = 2 then s.status.err
        else if n = 3 then s.status.ovr else if n = 4 then s.status.keyed
        else if 8 ≤ n ∧ n ≤ 11 then s.status.errcode.getLsbD (n - 8) else false) ∧
    (∀ v : Word, ∃ t, s.busWrite 0x0014#16 v = (.okay, t) ∧
      t.status.done = (if v.getLsbD 1 then false else s.status.done) ∧
      t.status.err = (if v.getLsbD 2 then false else s.status.err) ∧
      t.status.errcode = (if v.getLsbD 2 then 0#4 else s.status.errcode) ∧
      t.status.ovr = (if v.getLsbD 3 then false else s.status.ovr) ∧
      t.status.keyed = s.status.keyed ∧ { t with status := s.status } = s)

/-- R55, R56: the bytes of IN and OUT in the words of their windows, the first the most significant; and what a write to IN
stores. -/
def Obligations.BufferWindowsAreBigEndian : Prop :=
  ∀ (s : State) (v : Word) (w : Fin 1024), s.cfg.wf = true → 4 * w.val < s.cfg.msgMax →
    (∃ x : Word, s.busRead (BitVec.ofNat 16 (0x2000 + 4 * w.val)) = (.okay, x) ∧
      ∀ t : Nat, t < 4 → x.extractLsb' (24 - 8 * t) 8 = s.inByte (4 * w.val + t)) ∧
    (∃ x : Word, s.busRead (BitVec.ofNat 16 (0x3000 + 4 * w.val)) = (.okay, x) ∧
      (s.busy = true → x = 0#32) ∧
      (s.busy = false → ∀ t : Nat, t < 4 → x.extractLsb' (24 - 8 * t) 8 = s.outByte (4 * w.val + t))) ∧
    (s.busy = false → ∀ t : Nat, t < 4 →
      (s.busWrite (BitVec.ofNat 16 (0x2000 + 4 * w.val)) v).2.inByte (4 * w.val + t) = v.extractLsb' (24 - 8 * t) 8)

/-- A register the host can write reads back what was written while BF-CORE is idle, its reserved bits as 0 (R38, R44, R47 to
R49, R51, R55). -/
def Obligations.RegisterReadsBackWhatWasWritten : Prop :=
  ∀ (s : State) (v : Word), s.busy = false → s.cfg.wf = true →
    (∀ l : Loc, l = .msglen ∨ l = .xl ∨ l = .xr ∨ (∃ w, l = .key w) ∨ (∃ w, l = .inWord w) → l.wf s.cfg = true →
      (s.busWrite l.offset v).1 = .okay ∧ (s.busWrite l.offset v).2.busRead l.offset = (.okay, v)) ∧
    (s.busWrite 0x001C#16 v).2.busRead 0x001C#16 = (.okay, BitVec.ofNat 32 (v.toNat % 256)) ∧
    (s.busWrite 0x0018#16 v).2.busRead 0x0018#16 = (.okay, BitVec.ofNat 32 (v.toNat % 8))

/-- The frame of a host write: while idle, a write to a location other than CMD leaves what every other location reads, and every
byte of IN outside the word written and of OUT. -/
def Obligations.HostWriteFrame : Prop :=
  ∀ (s : State) (v : Word) (l m : Loc), s.busy = false → s.cfg.wf = true → l.wf s.cfg = true → l ≠ .cmd → l ≠ m →
    (s.busWrite l.offset v).2.readLoc m = s.readLoc m ∧
    (∀ n, (∀ w : Fin 1024, l = .inWord w → n < 4 * w.val ∨ 4 * w.val + 4 ≤ n) →
      (s.busWrite l.offset v).2.inByte n = s.inByte n) ∧
    (∀ n, (s.busWrite l.offset v).2.outByte n = s.outByte n)

/-- R53, R54: the P and S windows read the CipherState only while keyed and idle. -/
def Obligations.WindowsShowTheCipherOnlyWhileKeyedAndIdle : Prop :=
  ∀ (s : State) (i : Fin 18) (k : Fin 4) (j : Fin 256), s.cfg.wf = true →
    s.busRead (BitVec.ofNat 16 (0x80 + 4 * i.val)) =
      (.okay, if s.status.keyed = true ∧ s.busy = false then s.cipher.p[i] else 0#32) ∧
    s.busRead (BitVec.ofNat 16 (0x1000 + 0x400 * k.val + 4 * j.val)) =
      (.okay, if s.status.keyed = true ∧ s.busy = false then s.cipher.s[k][j] else 0#32)

/-- R320: the interrupt output, and how each of its three causes is set and cleared at a completion and at a launch. -/
def Obligations.IrqFollowsEnabledFlags : Prop :=
  ∀ s : State,
    (s.irq = true ↔ s.status.done = true ∧ s.irqen.doneie = true ∨ s.status.err = true ∧ s.irqen.errie = true ∨
      s.status.ovr = true ∧ s.irqen.ovrie = true) ∧
    State.reset.irq = false ∧
    (∀ w : Word, (s.launch w).irq = (s.status.ovr && s.irqen.ovrie)) ∧
    (∀ code : BitVec 4, (s.finish code).irq =
      (s.irqen.doneie || decide (code ≠ 0#4) && s.irqen.errie || s.status.ovr && s.irqen.ovrie))

/-! ### Launch and completion -/

/-- R231: a CMD write while idle launches, and while busy is dropped. That the latch takes every input register, whichever command
is launched, is the model's reading of R231 and R232 (log entry 8). -/
def Obligations.CmdWriteLaunches : Prop :=
  ∀ (s : State) (w : Word),
    (s.busy = true → s.busWrite 0x0010#16 w = (.okay, { s with status := { s.status with ovr := true } })) ∧
    (s.busy = false → ∃ t l, s.busWrite 0x0010#16 w = (.okay, t) ∧ t.latch = some l ∧ l.cmd = decode w ∧
      l.snapshot = s.inputs ∧ t.busy = true ∧
      t.status = { done := false, err := false, ovr := s.status.ovr, keyed := s.status.keyed, errcode := 0#4 } ∧
      { t with latch := s.latch, status := s.status, launches := s.launches } = s)

/-- R233, R234: a step at which the engine moves is the completion of the command in flight; what the model's step adds is
only that one step less passes before the next reset event. -/
def Obligations.StepRunsTheLatchedCommand : Prop :=
  ∀ (s : State) (l : Latch), s.latch = some l → (∀ later, s.resetSchedule ≠ 0 :: later) →
    (l.wait = 0 ∨ s.host.active = false) →
    (∀ i : Instr, l.cmd = .op i → step s = exec i s.tick) ∧
    (l.cmd = .illegal → step s = .next (completed s.tick 5#4)) ∧
    (s.resetSchedule = [] → s.tick = s)

/-- A command word placed for the next step (log entry 12) runs as the command its bits decode to, on the launched state; that its
inputs are every input register as it stands, whichever command it is, is log entry 8. -/
def Obligations.FetchedWordRuns : Prop :=
  ∀ (s : State) (w : Word) (i : Instr), i.wf = true → decode w = .op i →
    decodeTableWord 32 w.toNat = some i ∧
    step (s.withFetchWord 32 w.toNat) = exec i (s.withFetchWord 32 w.toNat) ∧
    (s.withFetchWord 32 w.toNat).operands = s.inputs

/-- R111: an illegal word is accepted, and its completion reports IllegalCommand with no other effect. -/
def Obligations.IllegalWordReportsIllegalCommand : Prop :=
  ∀ (s : State) (w : Word), (w.extractLsb' 8 24 ≠ 0#24 ∨ 8 ≤ (w.extractLsb' 0 8).toNat) → s.busy = false →
    (∃ t l, s.busWrite 0x0010#16 w = (.okay, t) ∧ t.latch = some l ∧ l.cmd = .illegal) ∧
    step (s.withFetchWord 32 w.toNat) = .next (completed (s.withFetchWord 32 w.toNat) 5#4)

/-! ### The commands -/

/-- R240: NOP has no effect but its completion. -/
def Obligations.NopResult : Prop :=
  ∀ s : State, exec .nop s = .next (completed s 0#4)

/-- R131: KSCHED with a legal key length and a whole table. -/
def Obligations.KschedResult : Prop :=
  ∀ s : State, 4 ≤ s.operands.keylen.toNat → s.operands.keylen.toNat ≤ 56 → 4168 ≤ s.cfg.constTable.length →
    exec .ksched s = .next (completed
      { s with
        cipher := bootstrap (keyMix (initFromTable s.cfg.constTable) s.operands.key s.operands.keylen.toNat)
        status := { s.status with keyed := true } } 0#4)

/-- R140: CLRKEY zeroises P and S and clears KEYED, whether or not BF-CORE is keyed, and writes nothing else. -/
def Obligations.ClrkeyResult : Prop :=
  ∀ s : State, ∃ t, exec .clrkey s = .next t ∧
    (∀ i : Fin 18, t.cipher.p[i] = 0#32) ∧ (∀ (k : Fin 4) (j : Fin 256), t.cipher.s[k][j] = 0#32) ∧
    t.status = { done := true, err := false, ovr := s.status.ovr, keyed := false, errcode := 0#4 } ∧ t.latch = none ∧
    { t with cipher := s.cipher, status := s.status, latch := s.latch } = s

/-- R170: ENCB while keyed. -/
def Obligations.EncbResult : Prop :=
  ∀ s : State, s.operands.keyed = true →
    exec .encb s = .next (completed
      { s with
        xl := (s.operands.cipher.encBlock { xl := s.operands.xl, xr := s.operands.xr }).xl
        xr := (s.operands.cipher.encBlock { xl := s.operands.xl, xr := s.operands.xr }).xr } 0#4)

/-- R172: DECB while keyed. -/
def Obligations.DecbResult : Prop :=
  ∀ s : State, s.operands.keyed = true →
    exec .decb s = .next (completed
      { s with
        xl := (s.operands.cipher.decBlock { xl := s.operands.xl, xr := s.operands.xr }).xl
        xr := (s.operands.cipher.decBlock { xl := s.operands.xl, xr := s.operands.xr }).xr } 0#4)

/-- R170, R172: ENCB followed by DECB, with the CipherState kept, restores XL and XR, and so does DECB followed by ENCB. -/
def Obligations.EncbThenDecbRestoresTheBlock : Prop :=
  ∀ s t : State, s.operands.keyed = true → t.operands.keyed = true → t.operands.cipher = s.operands.cipher →
    (∃ u, exec .encb s = .next u ∧
      (t.operands.xl = u.xl → t.operands.xr = u.xr →
        ∃ v, exec .decb t = .next v ∧ v.xl = s.operands.xl ∧ v.xr = s.operands.xr)) ∧
    (∃ u, exec .decb s = .next u ∧
      (t.operands.xl = u.xl → t.operands.xr = u.xr →
        ∃ v, exec .encb t = .next v ∧ v.xl = s.operands.xl ∧ v.xr = s.operands.xr))

/-- R175: FEVAL while keyed. -/
def Obligations.FevalResult : Prop :=
  ∀ s : State, s.operands.keyed = true →
    exec .feval s = .next (completed { s with fout := s.operands.cipher.f s.operands.xl } 0#4)

/-- R210, R204: ENCM of a message that fits. Every block of OUT is the encryption of the padded message's block, the rest of
OUT is 0x00, OUTLEN is the padded length, and nothing else is written. -/
def Obligations.EncmResult : Prop :=
  ∀ s : State, s.cfg.wf = true → s.operands.keyed = true → s.operands.msglen.toNat ≤ s.cfg.msgMax →
    ∃ t, exec .encm s = .next t ∧
      (∀ b : Nat, 8 * b < padLen s.operands.msglen.toNat →
        blockAt t.outByte b = s.operands.cipher.encBlock (blockAt (paddedByte s) b)) ∧
      (∀ n : Nat, padLen s.operands.msglen.toNat ≤ n → n < s.cfg.msgMax → t.outByte n = 0#8) ∧
      t.outlen = BitVec.ofNat 32 (padLen s.operands.msglen.toNat) ∧
      t.status = { done := true, err := false, ovr := s.status.ovr, keyed := s.status.keyed, errcode := 0#4 } ∧
      t.latch = none ∧
      { t with outBuf := s.outBuf, outlen := s.outlen, status := s.status, latch := s.latch } = s

/-- R220, R204: DECM of a ciphertext that fits and is a multiple of 8 long. Every block of OUT is the decryption of the block of IN,
the rest of OUT is 0x00, OUTLEN is the length left when the trailing zeros are stripped, and nothing else is written. -/
def Obligations.DecmResult : Prop :=
  ∀ s : State, s.cfg.wf = true → s.operands.keyed = true → s.operands.msglen.toNat ≤ s.cfg.msgMax →
    s.operands.msglen.toNat % 8 = 0 →
    ∃ t, exec .decm s = .next t ∧
      (∀ b : Nat, 8 * b < s.operands.msglen.toNat →
        blockAt t.outByte b = s.operands.cipher.decBlock (blockAt (inputByte s) b)) ∧
      (∀ n : Nat, s.operands.msglen.toNat ≤ n → n < s.cfg.msgMax → t.outByte n = 0#8) ∧
      t.outlen.toNat ≤ s.operands.msglen.toNat ∧
      (∀ n : Nat, t.outlen.toNat ≤ n → n < s.cfg.msgMax → t.outByte n = 0#8) ∧
      (t.outlen ≠ 0#32 → t.outByte (t.outlen.toNat - 1) ≠ 0#8) ∧
      t.status = { done := true, err := false, ovr := s.status.ovr, keyed := s.status.keyed, errcode := 0#4 } ∧
      t.latch = none ∧
      { t with outBuf := s.outBuf, outlen := s.outlen, status := s.status, latch := s.latch } = s

/-- R221: InvalidCiphertextLength is raised by DECM exactly when the length is no multiple of 8, fits, and BF-CORE is keyed; OUT and
OUTLEN are then unchanged. -/
def Obligations.DecmLengthCheck : Prop :=
  ∀ s : State, ∃ t, exec .decm s = .next t ∧
    (t.status.errcode = 2#4 ↔
      s.operands.msglen.toNat % 8 ≠ 0 ∧ s.operands.msglen.toNat ≤ s.cfg.msgMax ∧ s.operands.keyed = true) ∧
    (t.status.errcode = 2#4 → t = completed s 2#4)

/-- R310, R302: each command reports the first of its error conditions in the spec's order, and 0 when none holds; an illegal word
reports 5. -/
def Obligations.CommandReportsItsFirstError : Prop :=
  (∀ (i : Instr) (s : State), i.wf = true → ∃ t, exec i s = .next t ∧ t.status.errcode = reportedCode i s) ∧
  ∀ s : State, s.turn = .engine .illegal → ∃ t, step s = .next t ∧ t.status.errcode = 5#4

/-- R304: a command that completes with a nonzero code changes nothing but STATUS (and the latch is idle again). -/
def Obligations.FailedCommandChangesOnlyStatus : Prop :=
  ∀ (i : Instr) (s t : State), i.wf = true → exec i s = .next t → t.status.errcode ≠ 0#4 →
    t = { s with
      latch := none
      status := { done := true, err := true, ovr := s.status.ovr, keyed := s.status.keyed, errcode := t.status.errcode } }

/-- The frame of every command: what none of them changes, and what only the commands the spec names change. -/
def Obligations.CommandFrame : Prop :=
  ∀ (i : Instr) (s t : State), exec i s = .next t →
    t.cfg = s.cfg ∧ t.irqen = s.irqen ∧ t.keylen = s.keylen ∧ t.msglen = s.msglen ∧ t.key = s.key ∧ t.inBuf = s.inBuf ∧
    t.host = s.host ∧ t.resetSchedule = s.resetSchedule ∧ t.launches = s.launches ∧ t.resets = s.resets ∧
    t.status.ovr = s.status.ovr ∧ (∀ n, t.inByte n = s.inByte n) ∧
    (i ≠ .encb → i ≠ .decb → t.xl = s.xl ∧ t.xr = s.xr) ∧
    (i ≠ .feval → t.fout = s.fout) ∧
    (i ≠ .ksched → i ≠ .clrkey → t.cipher = s.cipher ∧ t.status.keyed = s.status.keyed) ∧
    (i ≠ .encm → i ≠ .decm → t.outlen = s.outlen ∧ ∀ n, t.outByte n = s.outByte n)

/-! ### F, the block functions and the key schedule -/

/-- R160: F, in numbers. -/
def Obligations.RoundFunctionInNumbers : Prop :=
  ∀ (c : CipherState) (x : Word),
    (c.f x).toNat =
      ((((c.s[0][x.toNat / 2 ^ 24]'(by omega)).toNat + (c.s[1][x.toNat / 2 ^ 16 % 256]'(by omega)).toNat) % 2 ^ 32
          ^^^ (c.s[2][x.toNat / 2 ^ 8 % 256]'(by omega)).toNat)
        + (c.s[3][x.toNat % 256]'(by omega)).toNat) % 2 ^ 32

/-- R162, R163: EncBlock by its 16 rounds, where `x r` is (xl, xr) before round r. -/
def Obligations.EncBlockByRounds : Prop :=
  ∀ (c : CipherState) (b : Block) (x : Nat → Block), x 0 = b →
    (∀ (r : Nat) (h : r < 16), x (r + 1) =
      { xl := (x r).xr ^^^ c.f ((x r).xl ^^^ c.p[r]), xr := (x r).xl ^^^ c.p[r] }) →
    c.encBlock b = { xl := (x 16).xr ^^^ c.p[17], xr := (x 16).xl ^^^ c.p[16] }

/-- R164: DecBlock by its 16 rounds, with P indices from 17 down to 2, where `x r` is (xl, xr) before round r. -/
def Obligations.DecBlockByRounds : Prop :=
  ∀ (c : CipherState) (b : Block) (x : Nat → Block), x 0 = b →
    (∀ (r : Nat) (h : r < 16), x (r + 1) =
      { xl := (x r).xr ^^^ c.f ((x r).xl ^^^ c.p[17 - r]), xr := (x r).xl ^^^ c.p[17 - r] }) →
    c.decBlock b = { xl := (x 16).xr ^^^ c.p[0], xr := (x 16).xl ^^^ c.p[1] }

/-- R165: each block function undoes the other, for every P and S, so both are bijections on blocks. -/
def Obligations.BlockFunctionsAreInverse : Prop :=
  ∀ c : CipherState,
    (∀ b : Block, c.decBlock (c.encBlock b) = b) ∧ (∀ b : Block, c.encBlock (c.decBlock b) = b) ∧
    Function.Bijective c.encBlock ∧ Function.Bijective c.decBlock

/-- R135: step 1 reads the table's words in order with one cursor, P first, then S[0] to S[3]; and its closed form. -/
def Obligations.InitFromTableReadsInOrder : Prop :=
  ∀ (ct : List Byte) (hl : 4168 ≤ ct.length),
    (initFromTable ct).p.toList ++ (initFromTable ct).s[0].toList ++ (initFromTable ct).s[1].toList ++
      (initFromTable ct).s[2].toList ++ (initFromTable ct).s[3].toList = readWords 1042 ct ∧
    (∀ (i : Nat) (h : i < 18),
      (initFromTable ct).p[i] = be32 (ct[4 * i]) (ct[4 * i + 1]) (ct[4 * i + 2]) (ct[4 * i + 3])) ∧
    (∀ (k j : Nat) (hk : k < 4) (hj : j < 256),
      (initFromTable ct).s[k][j] =
        be32 (ct[72 + 1024 * k + 4 * j]) (ct[72 + 1024 * k + 4 * j + 1]) (ct[72 + 1024 * k + 4 * j + 2])
          (ct[72 + 1024 * k + 4 * j + 3]))

/-- R136: step 2 XORs into P[i] the key bytes (4i + j) mod L, most significant first, and leaves the S-boxes. -/
def Obligations.KeyMixUsesTheCyclicKey : Prop :=
  ∀ (c : CipherState) (key : Vector Word 14) (len : Nat) (hlen : 4 ≤ len ∧ len ≤ 56),
    (keyMix c key len).s = c.s ∧
    ∀ (i : Nat) (h : i < 18),
      (keyMix c key len).p[i] = c.p[i] ^^^
        be32 (keyB key ((4 * i + 0) % len) (Nat.lt_of_lt_of_le (Nat.mod_lt _ (by omega)) hlen.2))
          (keyB key ((4 * i + 1) % len) (Nat.lt_of_lt_of_le (Nat.mod_lt _ (by omega)) hlen.2))
          (keyB key ((4 * i + 2) % len) (Nat.lt_of_lt_of_le (Nat.mod_lt _ (by omega)) hlen.2))
          (keyB key ((4 * i + 3) % len) (Nat.lt_of_lt_of_le (Nat.mod_lt _ (by omega)) hlen.2))

/-- R137: step 3 by its 521 invocations, where `b m` is the working state before invocation m: 9 fill P, then 128 fill each S-box. -/
def Obligations.BootstrapByInvocations : Prop :=
  ∀ (c : CipherState) (b : Nat → Boot), b 0 = { cipher := c, acc := { xl := 0#32, xr := 0#32 } } →
    (∀ i : Nat, i < 9 →
      (b (i + 1)).acc = (b i).cipher.encBlock (b i).acc ∧
      FillsP (b i).cipher (b (i + 1)).cipher i ((b i).cipher.encBlock (b i).acc)) →
    (∀ k j : Nat, k < 4 → j < 128 →
      (b (9 + 128 * k + j + 1)).acc = (b (9 + 128 * k + j)).cipher.encBlock (b (9 + 128 * k + j)).acc ∧
      FillsS (b (9 + 128 * k + j)).cipher (b (9 + 128 * k + j + 1)).cipher k j
        ((b (9 + 128 * k + j)).cipher.encBlock (b (9 + 128 * k + j)).acc)) →
    bootstrap c = (b 521).cipher

/-- R134: the new CipherState depends only on the key bytes below LEN, on LEN, and on CT[0..4167]. -/
def Obligations.KschedIgnoresTheOldCipher : Prop :=
  ∀ s t : State,
    4 ≤ s.operands.keylen.toNat → s.operands.keylen.toNat ≤ 56 → t.operands.keylen = s.operands.keylen →
    4168 ≤ s.cfg.constTable.length → 4168 ≤ t.cfg.constTable.length →
    (∀ n, n < s.operands.keylen.toNat → keyByte t.operands.key n = keyByte s.operands.key n) →
    t.cfg.constTable.take 4168 = s.cfg.constTable.take 4168 →
    ∃ u v, exec .ksched s = .next u ∧ exec .ksched t = .next v ∧ v.cipher = u.cipher

/-- R139: keys whose cyclic streams agree on the 72 bytes that step 2 consumes give the same CipherState, and so do any two
all-zero keys. -/
def Obligations.KeysWithOneStreamGiveOneCipher : Prop :=
  ∀ (ct : List Byte) (k1 k2 : Vector Word 14) (l1 l2 : Nat), 4 ≤ l1 → l1 ≤ 56 → 4 ≤ l2 → l2 ≤ 56 →
    ((∀ n, n < 72 → keyByte k1 (n % l1) = keyByte k2 (n % l2)) → deriveCipher ct k1 l1 = deriveCipher ct k2 l2) ∧
    ((∀ n, n < l1 → keyByte k1 n = 0#8) → (∀ n, n < l2 → keyByte k2 n = 0#8) →
      deriveCipher ct k1 l1 = deriveCipher ct k2 l2)

/-! ### Messages -/

/-- R200, R211: PadLen, its formula, and ENCM's output length. -/
def Obligations.PaddedLength : Prop :=
  (∀ n : Nat, padLen n = (max 1 n + 7) / 8 * 8) ∧ padLen 0 = 8 ∧
  (∀ n : Nat, 0 < n → n ≤ padLen n ∧ padLen n < n + 8 ∧ padLen n % 8 = 0) ∧
  ∀ s : State, s.cfg.wf = true → s.operands.keyed = true → s.operands.msglen.toNat ≤ s.cfg.msgMax →
    ∃ t, exec .encm s = .next t ∧ t.outlen.toNat = padLen s.operands.msglen.toNat

/-- R202: Strip removes every trailing 0x00 byte and nothing else. -/
def Obligations.StripRemovesExactlyTrailingZeros : Prop :=
  ∀ r : List Byte,
    (∃ n, r = strip r ++ List.replicate n 0#8) ∧ (strip r).getLast? ≠ some 0#8

/-- R212: ENCM's results depend only on P, S, MSGLEN and IN[0..MSGLEN-1]. -/
def Obligations.EncmReadsOnlyTheMessage : Prop :=
  ∀ s t : State, t.cfg.msgMax = s.cfg.msgMax →
    s.operands.keyed = true → t.operands.keyed = true → t.operands.cipher = s.operands.cipher →
    s.operands.msglen.toNat ≤ s.cfg.msgMax → t.operands.msglen = s.operands.msglen →
    (∀ n, n < s.operands.msglen.toNat → inputByte t n = inputByte s n) →
    ∃ u v, exec .encm s = .next u ∧ exec .encm t = .next v ∧ v.outBuf = u.outBuf ∧ v.outlen = u.outlen

/-- R223: ENCM of a message, its result copied into IN with MSGLEN = OUTLEN, then DECM: OUT holds the message with its trailing
zeros stripped, which is the message itself when it is empty or does not end in 0x00. -/
def Obligations.MessageRoundTrip : Prop :=
  ∀ s : State, s.cfg.wf = true → s.operands.keyed = true → s.operands.msglen.toNat ≤ s.cfg.msgMax →
    ∃ u, exec .encm s = .next u ∧
      ∀ t : State, t.cfg = s.cfg → t.operands.keyed = true → t.operands.cipher = s.operands.cipher →
        t.operands.msglen = u.outlen → (∀ n, n < u.outlen.toNat → inputByte t n = u.outByte n) →
        ∃ v, exec .decm t = .next v ∧ v.status.errcode = 0#4 ∧
          (List.range v.outlen.toNat).map v.outByte = strip ((List.range s.operands.msglen.toNat).map (inputByte s)) ∧
          (((List.range s.operands.msglen.toNat).map (inputByte s)).getLast? ≠ some 0#8 →
            (List.range v.outlen.toNat).map v.outByte = (List.range s.operands.msglen.toNat).map (inputByte s))

/-! ### Invariants that every step keeps, and their start at reset -/

/-- Every step keeps memory canonical and inside the buffers. -/
def Obligations.StepKeepsMemoryCanonical : Prop :=
  ∀ s t : State, MemoryOk s → step s = .next t → MemoryOk t

/-- R300: no step makes an error code of 7 to 15, ERR and ERRCODE always agree, and DONE and ERR stay 0 while a command is in
flight unless it completes. -/
def Obligations.StepKeepsStatusLegal : Prop :=
  ∀ s t : State, StatusOk s → step s = .next t → StatusOk t

/-- R232: nothing can change the inputs of a command in flight. A host step leaves it in flight, and leaves its command, its latched
inputs, the registers they were read from, CT and MSG_MAX, and the draws of the unwritten bytes of IN (log entry 4); any other step
ends it. So the latched inputs (log entry 8) stay the registers' own. -/
def Obligations.StepKeepsLatchCoherent : Prop :=
  ∀ s t : State, step s = .next t →
    (LatchOk s → LatchOk t) ∧
    (∀ l, s.latch = some l → s.turn = .host →
      t.inputs = s.inputs ∧ t.cfg = s.cfg ∧ t.resets = s.resets ∧
      ∃ m, t.latch = some m ∧ m.cmd = l.cmd ∧ m.snapshot = l.snapshot) ∧
    (s.turn ≠ .host → t.latch = none)

/-- R35: whenever a CipherState exists, it is the key schedule of some legal key under the constant table. -/
def Obligations.StepKeepsCipherDerived : Prop :=
  ∀ s t : State, CipherOk s → step s = .next t → CipherOk t

/-- R204: OUT bytes at or past OUTLEN stay 0x00 once OUT has been written. -/
def Obligations.StepKeepsOutTailZero : Prop :=
  ∀ s t : State, OutOk s → step s = .next t → OutOk t

/-- The invariants hold after reset. -/
def Obligations.ResetMeetsTheInvariants : Prop :=
  MemoryOk State.reset ∧ StatusOk State.reset ∧ LatchOk State.reset ∧ CipherOk State.reset ∧ OutOk State.reset

/-! ### The whole machine -/

/-- R31, R32, R35: P, S and KEYED change only at the completion of KSCHED or CLRKEY, or at reset. -/
def Obligations.OnlyKschedClrkeyAndResetChangeTheCipher : Prop :=
  ∀ s t : State, step s = .next t → (t.cipher ≠ s.cipher ∨ t.status.keyed ≠ s.status.keyed) →
    s.turn = .reset ∨ s.turn = .engine (.op .ksched) ∨ s.turn = .engine (.op .clrkey)

/-- R306: OVR, once set, is cleared only by a host write of 1 to it or by reset. -/
def Obligations.OverrunIsSticky : Prop :=
  ∀ s t : State, s.status.ovr = true → step s = .next t → t.status.ovr = false →
    s.turn = .reset ∨
    (s.turn = .host ∧ ∃ v : Word, v.getLsbD 3 = true ∧ s.host.current = some (.wr 0x0014#16 v))

/-- R93: a read has no side effect. The host's `rd` puts the word read in t and records the response, and changes nothing else, idle
or busy, but that one host step of the latency draw passes (log entry 5): the command in flight and its inputs stay. -/
def Obligations.ReadHasNoSideEffect : Prop :=
  ∀ (s : State) (off : Offset), s.turn = .host → s.resetSchedule = [] → s.host.current = some (.rd off) →
    ∃ t, step s = .next t ∧
      t.host = { s.host with
        pos := s.host.pos + 1
        t := (s.busRead off).2
        trace := ⟨.read off, (s.busRead off).1, some (s.busRead off).2⟩ :: s.host.trace } ∧
      { t with host := s.host } = s.spend ∧
      { s.spend with latch := s.latch } = s ∧
      (s.latch = none → s.spend.latch = none) ∧
      (∀ l, s.latch = some l → s.spend.latch = some { cmd := l.cmd, snapshot := l.snapshot, wait := l.wait - 1 }) ∧
      (∀ m : Loc, t.readLoc m = s.readLoc m)

/-- R121 (with the choices of log entry 11): what a statement of the host does, when it is the host's turn. One host step of the
latency draw passes with it (log entry 5), which is nothing while idle. -/
def Obligations.HostStatementsFollowTheirRules : Prop :=
  ∀ s : State, s.turn = .host → s.resetSchedule = [] →
    (s.busy = false → s.spend = s) ∧
    (∀ (off : Offset) (v : Word), s.host.current = some (.wr off v) →
      step s = .next { (s.spend.busWrite off v).2 with
        host := { s.host with
          pos := s.host.pos + 1
          trace := ⟨.write off v, (s.spend.busWrite off v).1, none⟩ :: s.host.trace } }) ∧
    (∀ name : Nat, s.host.current = some (.label name) →
      step s = .next { s.spend with host := { s.host with pos := s.host.pos + 1 } }) ∧
    (∀ (b : Fin 32) (name : Nat) (taken : Bool),
      s.host.current = some (.bit1 b name) ∧ s.host.t.getLsbD b = taken ∨
        s.host.current = some (.bit0 b name) ∧ s.host.t.getLsbD b = !taken →
      (taken = false → step s = .next { s.spend with host := { s.host with pos := s.host.pos + 1 } }) ∧
      (∀ n : Nat, taken = true → s.host.program[n]? = some (.label name) →
        (∀ m : Nat, m < n → s.host.program[m]? ≠ some (.label name)) →
        step s = .next { s.spend with host := { s.host with pos := n } }) ∧
      (taken = true → (∀ n : Nat, s.host.program[n]? ≠ some (.label name)) → step s = .fault (.undefinedLabel name))) ∧
    (∀ v : Word, s.host.current = some (.expect v) →
      ∃ t, step s = .next t ∧ t.host.pos = s.host.pos + 1 ∧
        (t.host.failed = true ↔ s.host.failed = true ∨ s.host.t ≠ v) ∧
        { t with host := { t.host with pos := s.host.pos, failed := s.host.failed } } = s.spend) ∧
    (s.host.current = some .halt ∨ s.host.current = none → step s = .next s)

/-- R234, R235 (the draw is log entry 5): a command in flight always completes, after no more host steps than its draw, and its results
do not depend on the draw or on what the host does meanwhile: they are those of its rule in the state it is in now. -/
def Obligations.CommandCompletesWithItsResultWhateverTheLatency : Prop :=
  ∀ (s : State) (l : Latch) (i : Instr), s.latch = some l → l.cmd = .op i → s.resetSchedule = [] → s.labelsOk →
    ∃ (k : Nat) (t r : State), k ≤ l.wait + 1 ∧ Sys2Proof.core.run k s = .next t ∧ exec i s = .next r ∧
      t.latch = none ∧ t.status.done = true ∧ t.status.err = r.status.err ∧ t.status.errcode = r.status.errcode ∧
      t.status.keyed = r.status.keyed ∧ t.cipher = r.cipher ∧ t.xl = r.xl ∧ t.xr = r.xr ∧ t.fout = r.fout ∧
      t.outBuf = r.outBuf ∧ t.outlen = r.outlen ∧ t.key = r.key ∧ t.keylen = r.keylen ∧ t.msglen = r.msglen ∧
      t.inBuf = r.inBuf ∧ t.cfg = r.cfg

/-- The one fault is the host's undefined label (log entry 11): a program whose branches all have their labels never stops. -/
def Obligations.RunWithDefinedLabelsIsSafe : Prop :=
  ∀ s : State, s.labelsOk → SafeRun s

/-- R36: while unkeyed, P and S (and the copy of them in the latch, log entry 8) are never observable: two states that differ
only in them take steps that differ only in them, and once either is keyed they do not differ at all. -/
def Obligations.UnkeyedCipherIsUnobservable : Prop :=
  ∀ s t : State, s.status.keyed = false → (∀ l, s.latch = some l → l.snapshot.keyed = false) →
    withoutCipher s = withoutCipher t →
    (∃ s' t', step s = .next s' ∧ step t = .next t' ∧ withoutCipher s' = withoutCipher t' ∧
      (s'.status.keyed = true → s'.cipher = t'.cipher)) ∨
    (∃ e, step s = .fault e ∧ step t = .fault e)
end

