-- ==== Sys2Proof/Laws/Bytes.lean ====
section
/-! SUPPORT. The lemmas of the byte order: `be32` and `bytes32` undo each other. -/

namespace Sys2Proof.Machine

/-- The bits of a word made of four bytes. -/
theorem be32_getLsbD (a b c d : Byte) (i : Nat) :
    (be32 a b c d).getLsbD i =
      if i < 8 then d.getLsbD i else if i < 16 then c.getLsbD (i - 8)
      else if i < 24 then b.getLsbD (i - 16) else a.getLsbD (i - 24) := by
  have h : (be32 a b c d).getLsbD i = BitVec.getLsbD (w := 8 + 8 + 8 + 8) (a ++ b ++ c ++ d) i := rfl
  rw [h, BitVec.getLsbD_append, BitVec.getLsbD_append, BitVec.getLsbD_append]
  by_cases h1 : i < 8
  · simp [h1]
  · by_cases h2 : i < 16
    · have : i - 8 < 8 := by omega
      simp [h1, h2, this]
    · by_cases h3 : i < 24
      · have e1 : ¬ i - 8 < 8 := by omega
        have e2 : i - 16 < 8 := by omega
        have e3 : i - 8 - 8 = i - 16 := by omega
        simp [h1, h2, h3, e1, e2, e3]
      · have e1 : ¬ i - 8 < 8 := by omega
        have e2 : ¬ i - 8 - 8 < 8 := by omega
        have e3 : i - 8 - 8 - 8 = i - 24 := by omega
        simp [h1, h2, h3, e1, e2, e3]

/-- The bits of a byte of a word (R84). -/
theorem byteOf_getLsbD (w : Word) (t i : Nat) (h : i < 8) : (byteOf w t).getLsbD i = w.getLsbD (24 - 8 * t + i) := by
  simp [byteOf, h]

@[simp] theorem byteOf_be32_0 (a b c d : Byte) : byteOf (be32 a b c d) 0 = a := by
  apply BitVec.eq_of_getLsbD_eq
  intro i hi
  rw [byteOf_getLsbD _ _ _ hi, be32_getLsbD, if_neg (by omega), if_neg (by omega), if_neg (by omega)]
  congr 1; omega

@[simp] theorem byteOf_be32_1 (a b c d : Byte) : byteOf (be32 a b c d) 1 = b := by
  apply BitVec.eq_of_getLsbD_eq
  intro i hi
  rw [byteOf_getLsbD _ _ _ hi, be32_getLsbD, if_neg (by omega), if_neg (by omega), if_pos (by omega)]
  congr 1; omega

@[simp] theorem byteOf_be32_2 (a b c d : Byte) : byteOf (be32 a b c d) 2 = c := by
  apply BitVec.eq_of_getLsbD_eq
  intro i hi
  rw [byteOf_getLsbD _ _ _ hi, be32_getLsbD, if_neg (by omega), if_pos (by omega)]
  congr 1; omega

@[simp] theorem byteOf_be32_3 (a b c d : Byte) : byteOf (be32 a b c d) 3 = d := by
  apply BitVec.eq_of_getLsbD_eq
  intro i hi
  rw [byteOf_getLsbD _ _ _ hi, be32_getLsbD, if_pos (by omega)]
  congr 1; omega

@[simp] theorem be32_byteOf (w : Word) : be32 (byteOf w 0) (byteOf w 1) (byteOf w 2) (byteOf w 3) = w := by
  apply BitVec.eq_of_getLsbD_eq
  intro i hi
  rw [be32_getLsbD]
  split
  · rw [byteOf_getLsbD _ _ _ (by omega)]; congr 1; omega
  · split
    · rw [byteOf_getLsbD _ _ _ (by omega)]; congr 1; omega
    · split
      · rw [byteOf_getLsbD _ _ _ (by omega)]; congr 1; omega
      · rw [byteOf_getLsbD _ _ _ (by omega)]; congr 1; omega

@[simp] theorem bytes32_be32 (a b c d : Byte) : bytes32 (be32 a b c d) = [a, b, c, d] := by simp [bytes32]

@[simp] theorem bytes32_length (w : Word) : (bytes32 w).length = 4 := rfl

end Sys2Proof.Machine
end

