-- ==== Sys2Proof/Laws/Ecb.lean ====
section
/-! SUPPORT. The lemmas of the message wrapper: padded lengths, stripping, and the length of ECB iteration. -/

namespace Sys2Proof.Machine

theorem padLen_ge (n : Nat) : n ≤ padLen n := by unfold padLen; split <;> omega

theorem padLen_mod (n : Nat) : padLen n % 8 = 0 := by unfold padLen; split <;> omega

theorem padLen_pos (n : Nat) : 8 ≤ padLen n := by unfold padLen; split <;> omega

/-- The padded length of a message that fits in a buffer of legal capacity fits too. -/
theorem padLen_le (n m : Nat) (h : n ≤ m) (h8 : m % 8 = 0) (hm : 8 ≤ m) : padLen n ≤ m := by
  unfold padLen; split <;> omega

@[simp] theorem pad_length (m : List Byte) : (pad m).length = padLen m.length := by
  have := padLen_ge m.length
  simp [pad]; omega

@[simp] theorem message_length (s : State) : s.message.length = s.operands.msglen.toNat := by simp [State.message]

/-- Zero bytes at the end do not change what stripping leaves. -/
theorem strip_append_zeros (r : List Byte) (n : Nat) : strip (r ++ List.replicate n 0#8) = strip r := by
  induction r with
  | nil =>
    induction n with
    | zero => rfl
    | succ n ih => simp [List.replicate_succ, strip] at *; rw [ih]
  | cons b rest ih => simp only [List.cons_append, strip, ih]

@[simp] theorem strip_pad (m : List Byte) : strip (pad m) = strip m := strip_append_zeros m _

theorem strip_length_le (r : List Byte) : (strip r).length ≤ r.length := by
  induction r with
  | nil => simp [strip]
  | cons b rest ih =>
    simp only [strip]
    split
    · split <;> simp
    · rename_i h; rw [h] at ih; simp at ih ⊢; exact ih

@[simp] theorem Block.bytes_length (b : Block) : b.bytes.length = 8 := rfl

/-- A byte sequence of whole blocks is empty or a block's bytes and then whole blocks. -/
theorem whole_blocks (k : Nat) (r : List Byte) (h : r.length = 8 * (k + 1)) :
    ∃ b0 b1 b2 b3 b4 b5 b6 b7 rest, r = b0 :: b1 :: b2 :: b3 :: b4 :: b5 :: b6 :: b7 :: rest ∧ rest.length = 8 * k := by
  have cons : ∀ (n : Nat) (r : List Byte), r.length = n + 1 → ∃ b rest, r = b :: rest ∧ rest.length = n := by
    intro n r h
    cases r with
    | nil => cases h
    | cons b rest => exact ⟨b, rest, rfl, Nat.succ.inj h⟩
  obtain ⟨b0, r0, rfl, h0⟩ := cons (8 * k + 7) r h
  obtain ⟨b1, r1, rfl, h1⟩ := cons (8 * k + 6) r0 h0
  obtain ⟨b2, r2, rfl, h2⟩ := cons (8 * k + 5) r1 h1
  obtain ⟨b3, r3, rfl, h3⟩ := cons (8 * k + 4) r2 h2
  obtain ⟨b4, r4, rfl, h4⟩ := cons (8 * k + 3) r3 h3
  obtain ⟨b5, r5, rfl, h5⟩ := cons (8 * k + 2) r4 h4
  obtain ⟨b6, r6, rfl, h6⟩ := cons (8 * k + 1) r5 h5
  obtain ⟨b7, r7, rfl, h7⟩ := cons (8 * k) r6 h6
  exact ⟨b0, b1, b2, b3, b4, b5, b6, b7, r7, rfl, h7⟩

/-- ECB iteration keeps the length of a sequence of whole blocks. -/
theorem mapBlocks_length (f : Block → Block) (k : Nat) (r : List Byte) (h : r.length = 8 * k) :
    (mapBlocks f r).length = 8 * k := by
  induction k generalizing r with
  | zero => rw [List.eq_nil_of_length_eq_zero (by omega : r.length = 0)]; rfl
  | succ k ih =>
    obtain ⟨b0, b1, b2, b3, b4, b5, b6, b7, rest, rfl, hr⟩ := whole_blocks k r h
    simp only [mapBlocks, List.length_append, Block.bytes_length, ih rest hr]; omega

end Sys2Proof.Machine
end

