-- ==== Sys2Proof/Laws/Feistel.lean ====
section
/-! SUPPORT. The lemmas of the round function's pieces. -/

namespace Sys2Proof.Machine

@[simp] theorem Block.swap_xl (b : Block) : b.swap.xl = b.xr := rfl
@[simp] theorem Block.swap_xr (b : Block) : b.swap.xr = b.xl := rfl
@[simp] theorem Block.swap_swap (b : Block) : b.swap.swap = b := rfl

@[simp] theorem CipherState.round_xl (c : CipherState) (b : Block) (i : Fin 18) :
    (c.round b i).xl = b.xr ^^^ c.f (b.xl ^^^ c.p[i]) := rfl
@[simp] theorem CipherState.round_xr (c : CipherState) (b : Block) (i : Fin 18) : (c.round b i).xr = b.xl ^^^ c.p[i] := rfl

/-- Byte `t` of a word as a number. -/
theorem byteOf_toNat (w : Word) (t : Nat) : (byteOf w t).toNat = w.toNat / 2 ^ (24 - 8 * t) % 256 := by
  simp [byteOf, BitVec.extractLsb'_toNat, Nat.shiftRight_eq_div_pow]

end Sys2Proof.Machine
end

