-- ==== Sys2Proof/Laws/KeySchedule.lean ====
section
/-! SUPPORT. The lemmas of the key schedule: two CipherStates are equal word by word, what a slot's overwriting leaves, and the
bootstrap's order. -/

namespace Sys2Proof.Machine

/-- Two CipherStates with the same words are equal. -/
theorem CipherState.eq_of_words (c d : CipherState) (hp : ∀ (n : Nat) (h : n < 18), c.p[n] = d.p[n])
    (hs : ∀ (k j : Nat) (hk : k < 4) (hj : j < 256), c.s[k][j] = d.s[k][j]) : c = d := by
  cases c; cases d
  congr
  · exact Vector.ext hp
  · exact Vector.ext fun k hk => Vector.ext fun j hj => hs k j hk hj

@[simp] theorem initFromTable_p (ct : List Byte) (i : Nat) (h : i < 18) : (initFromTable ct).p[i] = ctWord ct i := by
  simp [initFromTable]

@[simp] theorem initFromTable_s (ct : List Byte) (k j : Nat) (hk : k < 4) (hj : j < 256) :
    (initFromTable ct).s[k][j] = ctWord ct (18 + 256 * k + j) := by
  simp [initFromTable]

@[simp] theorem keyMix_s (c : CipherState) (key : Vector Word 14) (len : Nat) : (keyMix c key len).s = c.s := by
  simp only [keyMix]

@[simp] theorem keyMix_p (c : CipherState) (key : Vector Word 14) (len i : Nat) (h : i < 18) :
    (keyMix c key len).p[i] = c.p[i] ^^^ keyWord key len i := by
  simp [keyMix]

@[simp] theorem fill_p_s (c : CipherState) (i : Fin 9) (b : Block) : (c.fill (.p i) b).s = c.s := by simp only [CipherState.fill]

@[simp] theorem fill_s_p (c : CipherState) (k : Fin 4) (j : Fin 128) (b : Block) : (c.fill (.s k j) b).p = c.p := by
  simp only [CipherState.fill]

/-- The bootstrap's order, written out: P, then the four S-boxes. -/
theorem bootOrder_eq :
    bootOrder = (List.finRange 9).map Slot.p ++ ((List.finRange 128).map (Slot.s 0) ++ ((List.finRange 128).map (Slot.s 1) ++
      ((List.finRange 128).map (Slot.s 2) ++ (List.finRange 128).map (Slot.s 3)))) := by
  have h4 : List.finRange 4 = [0, 1, 2, 3] := by decide
  simp [bootOrder, h4]

/-- The bootstrap has 521 invocations (R138). -/
theorem bootOrder_length : bootOrder.length = 521 := by simp [bootOrder_eq]

/-- Invocations 0 to 8 fill P. -/
theorem bootOrder_p (i : Nat) (h : i < 9) : bootOrder[i]? = some (.p ⟨i, h⟩) := by
  rw [bootOrder_eq, List.getElem?_append_left (by simp; omega)]
  simp [h]

/-- Invocation 9 + 128k + j fills pair j of S[k]. -/
theorem bootOrder_s (k j : Nat) (hk : k < 4) (hj : j < 128) : bootOrder[9 + 128 * k + j]? = some (.s ⟨k, hk⟩ ⟨j, hj⟩) := by
  have hf : (List.finRange 128)[j]? = some ⟨j, hj⟩ := by simp [hj]
  rw [bootOrder_eq, List.getElem?_append_right (by simp; omega)]
  simp only [List.length_map, List.length_finRange, show 9 + 128 * k + j - 9 = 128 * k + j by omega]
  match k, hk with
  | 0, _ => rw [List.getElem?_append_left (by simp; omega)]; simp [hf]
  | 1, _ =>
    rw [List.getElem?_append_right (by simp), List.getElem?_append_left (by simp; omega)]
    simp [hf]
  | 2, _ =>
    rw [List.getElem?_append_right (by simp; omega), List.getElem?_append_right (by simp; omega),
      List.getElem?_append_left (by simp; omega)]
    simp [hf, show 128 * 2 + j - 128 - 128 = j by omega]
  | 3, _ =>
    rw [List.getElem?_append_right (by simp; omega), List.getElem?_append_right (by simp; omega),
      List.getElem?_append_right (by simp; omega)]
    simp [hf, show 128 * 3 + j - 128 - 128 - 128 = j by omega]

end Sys2Proof.Machine
end

