-- ==== Sys2Proof/Laws/Memory.lean ====
section
/-! SUPPORT. The lemmas of Memory: read after write, and that every operation keeps the canonical form and its bounds. -/

namespace Sys2Proof.Machine

@[simp] theorem Memory.read_nil (n : Nat) : Memory.read [] n = none := rfl

theorem Memory.read_write_same (m : Memory) (n : Nat) (b : Byte) : (m.write n b).read n = some b := by
  induction m with
  | nil => simp [Memory.write, Memory.read]
  | cons c rest ih =>
    obtain ⟨a, d⟩ := c
    simp only [Memory.write]
    split
    · simp [Memory.read]
    · split
      · simp [Memory.read]
      · rename_i h; simp [Memory.read, Ne.symm h, ih]

theorem Memory.read_write_other (m : Memory) (n k : Nat) (b : Byte) (h : k ≠ n) : (m.write n b).read k = m.read k := by
  induction m with
  | nil => simp [Memory.write, Memory.read, Ne.symm h]
  | cons c rest ih =>
    obtain ⟨a, d⟩ := c
    simp only [Memory.write]
    split
    · simp [Memory.read, Ne.symm h]
    · split
      · rename_i e; subst e; simp [Memory.read, Ne.symm h]
      · simp only [Memory.read, ih]

/-- The cells of a memory after a write are the cell written and cells it had. -/
theorem Memory.mem_write {m : Memory} {n : Nat} {b : Byte} {c : Host.Cell} (h : c ∈ m.write n b) : c = (n, b) ∨ c ∈ m := by
  induction m with
  | nil => simp [Memory.write] at h; exact .inl h
  | cons d rest ih =>
    obtain ⟨a, e⟩ := d
    simp only [Memory.write] at h
    split at h
    · simpa using h
    · split at h
      · rcases List.mem_cons.1 h with h | h
        · exact .inl h
        · exact .inr (List.mem_cons_of_mem _ h)
      · rcases List.mem_cons.1 h with h | h
        · exact .inr (h ▸ List.mem_cons_self ..)
        · rcases ih h with h | h
          · exact .inl h
          · exact .inr (List.mem_cons_of_mem _ h)

theorem Memory.wf_write {m : Memory} (h : m.wf) (n : Nat) (b : Byte) : (m.write n b).wf := by
  induction m with
  | nil => simp [Memory.write, Memory.wf]
  | cons d rest ih =>
    obtain ⟨a, e⟩ := d
    have h1 := List.pairwise_cons.1 h
    simp only [Memory.write]
    split
    · rename_i hn
      refine List.pairwise_cons.2 ⟨fun c hc => ?_, h⟩
      rcases List.mem_cons.1 hc with rfl | hc
      · exact hn
      · exact Nat.lt_trans hn (h1.1 c hc)
    · split
      · rename_i e'; subst e'; exact List.pairwise_cons.2 h1
      · refine List.pairwise_cons.2 ⟨fun c hc => ?_, ih h1.2⟩
        rcases Memory.mem_write hc with rfl | hc
        · show a < n; omega
        · exact h1.1 c hc

theorem Memory.wf_writeAll {m : Memory} (h : m.wf) (n : Nat) (bs : List Byte) : (m.writeAll n bs).wf := by
  induction bs generalizing m n with
  | nil => exact h
  | cons b rest ih => exact ih (Memory.wf_write h n b) (n + 1)

theorem Memory.mem_writeAll {m : Memory} {n : Nat} {bs : List Byte} {c : Host.Cell} (h : c ∈ m.writeAll n bs) :
    (n ≤ c.1 ∧ c.1 < n + bs.length) ∨ c ∈ m := by
  induction bs generalizing m n with
  | nil => exact .inr h
  | cons b rest ih =>
    rcases ih h with h | h
    · left; simp; omega
    · rcases Memory.mem_write h with rfl | h
      · left; simp
      · exact .inr h

theorem Memory.read_writeAll_outside (m : Memory) (n k : Nat) (bs : List Byte) (h : k < n ∨ n + bs.length ≤ k) :
    (m.writeAll n bs).read k = m.read k := by
  induction bs generalizing m n with
  | nil => rfl
  | cons b rest ih =>
    simp only [Memory.writeAll, List.length_cons] at *
    rw [ih _ _ (by omega), Memory.read_write_other _ _ _ _ (by omega)]

theorem Memory.read_writeAll_inside (m : Memory) (n k : Nat) (bs : List Byte) (h : k < bs.length) :
    (m.writeAll n bs).read (n + k) = some bs[k] := by
  induction bs generalizing m n k with
  | nil => simp at h
  | cons b rest ih =>
    cases k with
    | zero =>
      simp only [Memory.writeAll, Nat.add_zero]
      rw [Memory.read_writeAll_outside _ _ _ _ (by omega), Memory.read_write_same]; rfl
    | succ k =>
      have := ih (m.write n b) (n + 1) k (by simpa using h)
      simp only [Memory.writeAll, List.getElem_cons_succ]
      rw [← this]; congr 1; omega

theorem Memory.mem_ofBytes {n : Nat} {bs : List Byte} {c : Host.Cell} (h : c ∈ Memory.ofBytes n bs) :
    n ≤ c.1 ∧ c.1 < n + bs.length := by
  induction bs generalizing n with
  | nil => simp [Memory.ofBytes] at h
  | cons b rest ih =>
    rcases List.mem_cons.1 h with rfl | h
    · simp
    · have := ih h; simp; omega

theorem Memory.wf_ofBytes (n : Nat) (bs : List Byte) : (Memory.ofBytes n bs).wf := by
  induction bs generalizing n with
  | nil => exact List.Pairwise.nil
  | cons b rest ih =>
    exact List.pairwise_cons.2 ⟨fun c hc => Nat.lt_of_lt_of_le (Nat.lt_succ_self n) (Memory.mem_ofBytes hc).1, ih (n + 1)⟩

theorem Memory.read_ofBytes (n k : Nat) (bs : List Byte) : (Memory.ofBytes n bs).read (n + k) = bs[k]? := by
  induction bs generalizing n k with
  | nil => simp [Memory.ofBytes]
  | cons b rest ih =>
    cases k with
    | zero => simp [Memory.ofBytes, Memory.read]
    | succ k =>
      have := ih (n + 1) k
      simp only [Memory.ofBytes, Memory.read, List.getElem?_cons_succ]
      rw [if_neg (by omega), ← this]; congr 1; omega

/-- A memory made from bytes holds exactly them. -/
@[simp] theorem Memory.read_ofBytes_zero (k : Nat) (bs : List Byte) : (Memory.ofBytes 0 bs).read k = bs[k]? := by
  simpa using Memory.read_ofBytes 0 k bs

end Sys2Proof.Machine
end

