-- ==== Sys2Proof/Laws/State.lean ====
section
/-! SUPPORT. One lemma per field per named update of State, so that no proof unfolds a record update; and the same for the updates
of STATUS. -/

namespace Sys2Proof.Machine

/-! ### a launch (R231) -/

@[simp] theorem State.launchWith_cfg (s : State) (n : Nat) (w : Word) : (s.launchWith n w).cfg = s.cfg := rfl
@[simp] theorem State.launchWith_cipher (s : State) (n : Nat) (w : Word) : (s.launchWith n w).cipher = s.cipher := rfl
@[simp] theorem State.launchWith_status (s : State) (n : Nat) (w : Word) : (s.launchWith n w).status = s.status.launched := rfl
@[simp] theorem State.launchWith_irqen (s : State) (n : Nat) (w : Word) : (s.launchWith n w).irqen = s.irqen := rfl
@[simp] theorem State.launchWith_keylen (s : State) (n : Nat) (w : Word) : (s.launchWith n w).keylen = s.keylen := rfl
@[simp] theorem State.launchWith_msglen (s : State) (n : Nat) (w : Word) : (s.launchWith n w).msglen = s.msglen := rfl
@[simp] theorem State.launchWith_outlen (s : State) (n : Nat) (w : Word) : (s.launchWith n w).outlen = s.outlen := rfl
@[simp] theorem State.launchWith_xl (s : State) (n : Nat) (w : Word) : (s.launchWith n w).xl = s.xl := rfl
@[simp] theorem State.launchWith_xr (s : State) (n : Nat) (w : Word) : (s.launchWith n w).xr = s.xr := rfl
@[simp] theorem State.launchWith_fout (s : State) (n : Nat) (w : Word) : (s.launchWith n w).fout = s.fout := rfl
@[simp] theorem State.launchWith_key (s : State) (n : Nat) (w : Word) : (s.launchWith n w).key = s.key := rfl
@[simp] theorem State.launchWith_inBuf (s : State) (n : Nat) (w : Word) : (s.launchWith n w).inBuf = s.inBuf := rfl
@[simp] theorem State.launchWith_outBuf (s : State) (n : Nat) (w : Word) : (s.launchWith n w).outBuf = s.outBuf := rfl
@[simp] theorem State.launchWith_latch (s : State) (n : Nat) (w : Word) : (s.launchWith n w).latch = some { cmd := decode w, snapshot := s.inputs, wait := n } := rfl
@[simp] theorem State.launchWith_host (s : State) (n : Nat) (w : Word) : (s.launchWith n w).host = s.host := rfl
@[simp] theorem State.launchWith_resetSchedule (s : State) (n : Nat) (w : Word) : (s.launchWith n w).resetSchedule = s.resetSchedule := rfl
@[simp] theorem State.launchWith_launches (s : State) (n : Nat) (w : Word) : (s.launchWith n w).launches = s.launches + 1 := rfl
@[simp] theorem State.launchWith_resets (s : State) (n : Nat) (w : Word) : (s.launchWith n w).resets = s.resets := rfl

/-! ### a launch with its drawn latency (R231) -/

@[simp] theorem State.launch_cfg (s : State) (w : Word) : (s.launch w).cfg = s.cfg := rfl
@[simp] theorem State.launch_cipher (s : State) (w : Word) : (s.launch w).cipher = s.cipher := rfl
@[simp] theorem State.launch_status (s : State) (w : Word) : (s.launch w).status = s.status.launched := rfl
@[simp] theorem State.launch_irqen (s : State) (w : Word) : (s.launch w).irqen = s.irqen := rfl
@[simp] theorem State.launch_keylen (s : State) (w : Word) : (s.launch w).keylen = s.keylen := rfl
@[simp] theorem State.launch_msglen (s : State) (w : Word) : (s.launch w).msglen = s.msglen := rfl
@[simp] theorem State.launch_outlen (s : State) (w : Word) : (s.launch w).outlen = s.outlen := rfl
@[simp] theorem State.launch_xl (s : State) (w : Word) : (s.launch w).xl = s.xl := rfl
@[simp] theorem State.launch_xr (s : State) (w : Word) : (s.launch w).xr = s.xr := rfl
@[simp] theorem State.launch_fout (s : State) (w : Word) : (s.launch w).fout = s.fout := rfl
@[simp] theorem State.launch_key (s : State) (w : Word) : (s.launch w).key = s.key := rfl
@[simp] theorem State.launch_inBuf (s : State) (w : Word) : (s.launch w).inBuf = s.inBuf := rfl
@[simp] theorem State.launch_outBuf (s : State) (w : Word) : (s.launch w).outBuf = s.outBuf := rfl
@[simp] theorem State.launch_latch (s : State) (w : Word) : (s.launch w).latch = some { cmd := decode w, snapshot := s.inputs, wait := Config.hostStepsBeforeCompletion s.launches } := rfl
@[simp] theorem State.launch_host (s : State) (w : Word) : (s.launch w).host = s.host := rfl
@[simp] theorem State.launch_resetSchedule (s : State) (w : Word) : (s.launch w).resetSchedule = s.resetSchedule := rfl
@[simp] theorem State.launch_launches (s : State) (w : Word) : (s.launch w).launches = s.launches + 1 := rfl
@[simp] theorem State.launch_resets (s : State) (w : Word) : (s.launch w).resets = s.resets := rfl

/-! ### a completion (R233) -/

@[simp] theorem State.finish_cfg (s : State) (code : BitVec 4) : (s.finish code).cfg = s.cfg := rfl
@[simp] theorem State.finish_cipher (s : State) (code : BitVec 4) : (s.finish code).cipher = s.cipher := rfl
@[simp] theorem State.finish_status (s : State) (code : BitVec 4) : (s.finish code).status = s.status.completed code := rfl
@[simp] theorem State.finish_irqen (s : State) (code : BitVec 4) : (s.finish code).irqen = s.irqen := rfl
@[simp] theorem State.finish_keylen (s : State) (code : BitVec 4) : (s.finish code).keylen = s.keylen := rfl
@[simp] theorem State.finish_msglen (s : State) (code : BitVec 4) : (s.finish code).msglen = s.msglen := rfl
@[simp] theorem State.finish_outlen (s : State) (code : BitVec 4) : (s.finish code).outlen = s.outlen := rfl
@[simp] theorem State.finish_xl (s : State) (code : BitVec 4) : (s.finish code).xl = s.xl := rfl
@[simp] theorem State.finish_xr (s : State) (code : BitVec 4) : (s.finish code).xr = s.xr := rfl
@[simp] theorem State.finish_fout (s : State) (code : BitVec 4) : (s.finish code).fout = s.fout := rfl
@[simp] theorem State.finish_key (s : State) (code : BitVec 4) : (s.finish code).key = s.key := rfl
@[simp] theorem State.finish_inBuf (s : State) (code : BitVec 4) : (s.finish code).inBuf = s.inBuf := rfl
@[simp] theorem State.finish_outBuf (s : State) (code : BitVec 4) : (s.finish code).outBuf = s.outBuf := rfl
@[simp] theorem State.finish_latch (s : State) (code : BitVec 4) : (s.finish code).latch = none := rfl
@[simp] theorem State.finish_host (s : State) (code : BitVec 4) : (s.finish code).host = s.host := rfl
@[simp] theorem State.finish_resetSchedule (s : State) (code : BitVec 4) : (s.finish code).resetSchedule = s.resetSchedule := rfl
@[simp] theorem State.finish_launches (s : State) (code : BitVec 4) : (s.finish code).launches = s.launches := rfl
@[simp] theorem State.finish_resets (s : State) (code : BitVec 4) : (s.finish code).resets = s.resets := rfl

/-! ### a dropped write (R91) -/

@[simp] theorem State.dropWrite_cfg (s : State) : (s.dropWrite).cfg = s.cfg := rfl
@[simp] theorem State.dropWrite_cipher (s : State) : (s.dropWrite).cipher = s.cipher := rfl
@[simp] theorem State.dropWrite_status (s : State) : (s.dropWrite).status = { s.status with ovr := true } := rfl
@[simp] theorem State.dropWrite_irqen (s : State) : (s.dropWrite).irqen = s.irqen := rfl
@[simp] theorem State.dropWrite_keylen (s : State) : (s.dropWrite).keylen = s.keylen := rfl
@[simp] theorem State.dropWrite_msglen (s : State) : (s.dropWrite).msglen = s.msglen := rfl
@[simp] theorem State.dropWrite_outlen (s : State) : (s.dropWrite).outlen = s.outlen := rfl
@[simp] theorem State.dropWrite_xl (s : State) : (s.dropWrite).xl = s.xl := rfl
@[simp] theorem State.dropWrite_xr (s : State) : (s.dropWrite).xr = s.xr := rfl
@[simp] theorem State.dropWrite_fout (s : State) : (s.dropWrite).fout = s.fout := rfl
@[simp] theorem State.dropWrite_key (s : State) : (s.dropWrite).key = s.key := rfl
@[simp] theorem State.dropWrite_inBuf (s : State) : (s.dropWrite).inBuf = s.inBuf := rfl
@[simp] theorem State.dropWrite_outBuf (s : State) : (s.dropWrite).outBuf = s.outBuf := rfl
@[simp] theorem State.dropWrite_latch (s : State) : (s.dropWrite).latch = s.latch := rfl
@[simp] theorem State.dropWrite_host (s : State) : (s.dropWrite).host = s.host := rfl
@[simp] theorem State.dropWrite_resetSchedule (s : State) : (s.dropWrite).resetSchedule = s.resetSchedule := rfl
@[simp] theorem State.dropWrite_launches (s : State) : (s.dropWrite).launches = s.launches := rfl
@[simp] theorem State.dropWrite_resets (s : State) : (s.dropWrite).resets = s.resets := rfl

/-! ### one host step of the draw (R234) -/

@[simp] theorem State.spend_cfg (s : State) : (s.spend).cfg = s.cfg := rfl
@[simp] theorem State.spend_cipher (s : State) : (s.spend).cipher = s.cipher := rfl
@[simp] theorem State.spend_status (s : State) : (s.spend).status = s.status := rfl
@[simp] theorem State.spend_irqen (s : State) : (s.spend).irqen = s.irqen := rfl
@[simp] theorem State.spend_keylen (s : State) : (s.spend).keylen = s.keylen := rfl
@[simp] theorem State.spend_msglen (s : State) : (s.spend).msglen = s.msglen := rfl
@[simp] theorem State.spend_outlen (s : State) : (s.spend).outlen = s.outlen := rfl
@[simp] theorem State.spend_xl (s : State) : (s.spend).xl = s.xl := rfl
@[simp] theorem State.spend_xr (s : State) : (s.spend).xr = s.xr := rfl
@[simp] theorem State.spend_fout (s : State) : (s.spend).fout = s.fout := rfl
@[simp] theorem State.spend_key (s : State) : (s.spend).key = s.key := rfl
@[simp] theorem State.spend_inBuf (s : State) : (s.spend).inBuf = s.inBuf := rfl
@[simp] theorem State.spend_outBuf (s : State) : (s.spend).outBuf = s.outBuf := rfl
@[simp] theorem State.spend_latch (s : State) : (s.spend).latch = s.latch.map fun l => { l with wait := l.wait - 1 } := rfl
@[simp] theorem State.spend_host (s : State) : (s.spend).host = s.host := rfl
@[simp] theorem State.spend_resetSchedule (s : State) : (s.spend).resetSchedule = s.resetSchedule := rfl
@[simp] theorem State.spend_launches (s : State) : (s.spend).launches = s.launches := rfl
@[simp] theorem State.spend_resets (s : State) : (s.spend).resets = s.resets := rfl

/-! ### the OUT write policy (R204) -/

@[simp] theorem State.writeResult_cfg (s : State) (r : List Byte) (len : Nat) : (s.writeResult r len).cfg = s.cfg := rfl
@[simp] theorem State.writeResult_cipher (s : State) (r : List Byte) (len : Nat) : (s.writeResult r len).cipher = s.cipher := rfl
@[simp] theorem State.writeResult_status (s : State) (r : List Byte) (len : Nat) : (s.writeResult r len).status = s.status := rfl
@[simp] theorem State.writeResult_irqen (s : State) (r : List Byte) (len : Nat) : (s.writeResult r len).irqen = s.irqen := rfl
@[simp] theorem State.writeResult_keylen (s : State) (r : List Byte) (len : Nat) : (s.writeResult r len).keylen = s.keylen := rfl
@[simp] theorem State.writeResult_msglen (s : State) (r : List Byte) (len : Nat) : (s.writeResult r len).msglen = s.msglen := rfl
@[simp] theorem State.writeResult_outlen (s : State) (r : List Byte) (len : Nat) : (s.writeResult r len).outlen = BitVec.ofNat 32 len := rfl
@[simp] theorem State.writeResult_xl (s : State) (r : List Byte) (len : Nat) : (s.writeResult r len).xl = s.xl := rfl
@[simp] theorem State.writeResult_xr (s : State) (r : List Byte) (len : Nat) : (s.writeResult r len).xr = s.xr := rfl
@[simp] theorem State.writeResult_fout (s : State) (r : List Byte) (len : Nat) : (s.writeResult r len).fout = s.fout := rfl
@[simp] theorem State.writeResult_key (s : State) (r : List Byte) (len : Nat) : (s.writeResult r len).key = s.key := rfl
@[simp] theorem State.writeResult_inBuf (s : State) (r : List Byte) (len : Nat) : (s.writeResult r len).inBuf = s.inBuf := rfl
@[simp] theorem State.writeResult_outBuf (s : State) (r : List Byte) (len : Nat) : (s.writeResult r len).outBuf = Memory.ofBytes 0 (r ++ List.replicate (s.cfg.msgMax - r.length) 0#8) := rfl
@[simp] theorem State.writeResult_latch (s : State) (r : List Byte) (len : Nat) : (s.writeResult r len).latch = s.latch := rfl
@[simp] theorem State.writeResult_host (s : State) (r : List Byte) (len : Nat) : (s.writeResult r len).host = s.host := rfl
@[simp] theorem State.writeResult_resetSchedule (s : State) (r : List Byte) (len : Nat) : (s.writeResult r len).resetSchedule = s.resetSchedule := rfl
@[simp] theorem State.writeResult_launches (s : State) (r : List Byte) (len : Nat) : (s.writeResult r len).launches = s.launches := rfl
@[simp] theorem State.writeResult_resets (s : State) (r : List Byte) (len : Nat) : (s.writeResult r len).resets = s.resets := rfl

/-! ### one step before the next reset event -/

@[simp] theorem State.tick_cfg (s : State) : (s.tick).cfg = s.cfg := rfl
@[simp] theorem State.tick_cipher (s : State) : (s.tick).cipher = s.cipher := rfl
@[simp] theorem State.tick_status (s : State) : (s.tick).status = s.status := rfl
@[simp] theorem State.tick_irqen (s : State) : (s.tick).irqen = s.irqen := rfl
@[simp] theorem State.tick_keylen (s : State) : (s.tick).keylen = s.keylen := rfl
@[simp] theorem State.tick_msglen (s : State) : (s.tick).msglen = s.msglen := rfl
@[simp] theorem State.tick_outlen (s : State) : (s.tick).outlen = s.outlen := rfl
@[simp] theorem State.tick_xl (s : State) : (s.tick).xl = s.xl := rfl
@[simp] theorem State.tick_xr (s : State) : (s.tick).xr = s.xr := rfl
@[simp] theorem State.tick_fout (s : State) : (s.tick).fout = s.fout := rfl
@[simp] theorem State.tick_key (s : State) : (s.tick).key = s.key := rfl
@[simp] theorem State.tick_inBuf (s : State) : (s.tick).inBuf = s.inBuf := rfl
@[simp] theorem State.tick_outBuf (s : State) : (s.tick).outBuf = s.outBuf := rfl
@[simp] theorem State.tick_latch (s : State) : (s.tick).latch = s.latch := rfl
@[simp] theorem State.tick_host (s : State) : (s.tick).host = s.host := rfl
@[simp] theorem State.tick_launches (s : State) : (s.tick).launches = s.launches := rfl
@[simp] theorem State.tick_resets (s : State) : (s.tick).resets = s.resets := rfl

/-! ### a reset event (R402) -/

@[simp] theorem State.blockReset_cfg (s : State) : (s.blockReset).cfg = s.cfg := rfl
@[simp] theorem State.blockReset_cipher (s : State) : (s.blockReset).cipher = State.reset.cipher := rfl
@[simp] theorem State.blockReset_status (s : State) : (s.blockReset).status = State.reset.status := rfl
@[simp] theorem State.blockReset_irqen (s : State) : (s.blockReset).irqen = State.reset.irqen := rfl
@[simp] theorem State.blockReset_keylen (s : State) : (s.blockReset).keylen = State.reset.keylen := rfl
@[simp] theorem State.blockReset_msglen (s : State) : (s.blockReset).msglen = State.reset.msglen := rfl
@[simp] theorem State.blockReset_outlen (s : State) : (s.blockReset).outlen = State.reset.outlen := rfl
@[simp] theorem State.blockReset_xl (s : State) : (s.blockReset).xl = State.reset.xl := rfl
@[simp] theorem State.blockReset_xr (s : State) : (s.blockReset).xr = State.reset.xr := rfl
@[simp] theorem State.blockReset_fout (s : State) : (s.blockReset).fout = State.reset.fout := rfl
@[simp] theorem State.blockReset_key (s : State) : (s.blockReset).key = State.reset.key := rfl
@[simp] theorem State.blockReset_inBuf (s : State) : (s.blockReset).inBuf = State.reset.inBuf := rfl
@[simp] theorem State.blockReset_outBuf (s : State) : (s.blockReset).outBuf = State.reset.outBuf := rfl
@[simp] theorem State.blockReset_latch (s : State) : (s.blockReset).latch = State.reset.latch := rfl
@[simp] theorem State.blockReset_host (s : State) : (s.blockReset).host = s.host := rfl
@[simp] theorem State.blockReset_resetSchedule (s : State) : (s.blockReset).resetSchedule = s.resetSchedule.tail := rfl
@[simp] theorem State.blockReset_launches (s : State) : (s.blockReset).launches = s.launches := rfl
@[simp] theorem State.blockReset_resets (s : State) : (s.blockReset).resets = s.resets + 1 := rfl

/-! ### a command word placed for the next step -/

@[simp] theorem State.withFetchWord_cfg (s : State) (nbits w : Nat) : (s.withFetchWord nbits w).cfg = s.cfg := rfl
@[simp] theorem State.withFetchWord_cipher (s : State) (nbits w : Nat) : (s.withFetchWord nbits w).cipher = s.cipher := rfl
@[simp] theorem State.withFetchWord_status (s : State) (nbits w : Nat) : (s.withFetchWord nbits w).status = s.status.launched := rfl
@[simp] theorem State.withFetchWord_irqen (s : State) (nbits w : Nat) : (s.withFetchWord nbits w).irqen = s.irqen := rfl
@[simp] theorem State.withFetchWord_keylen (s : State) (nbits w : Nat) : (s.withFetchWord nbits w).keylen = s.keylen := rfl
@[simp] theorem State.withFetchWord_msglen (s : State) (nbits w : Nat) : (s.withFetchWord nbits w).msglen = s.msglen := rfl
@[simp] theorem State.withFetchWord_outlen (s : State) (nbits w : Nat) : (s.withFetchWord nbits w).outlen = s.outlen := rfl
@[simp] theorem State.withFetchWord_xl (s : State) (nbits w : Nat) : (s.withFetchWord nbits w).xl = s.xl := rfl
@[simp] theorem State.withFetchWord_xr (s : State) (nbits w : Nat) : (s.withFetchWord nbits w).xr = s.xr := rfl
@[simp] theorem State.withFetchWord_fout (s : State) (nbits w : Nat) : (s.withFetchWord nbits w).fout = s.fout := rfl
@[simp] theorem State.withFetchWord_key (s : State) (nbits w : Nat) : (s.withFetchWord nbits w).key = s.key := rfl
@[simp] theorem State.withFetchWord_inBuf (s : State) (nbits w : Nat) : (s.withFetchWord nbits w).inBuf = s.inBuf := rfl
@[simp] theorem State.withFetchWord_outBuf (s : State) (nbits w : Nat) : (s.withFetchWord nbits w).outBuf = s.outBuf := rfl
@[simp] theorem State.withFetchWord_latch (s : State) (nbits w : Nat) : (s.withFetchWord nbits w).latch = some { cmd := decode (BitVec.ofNat 32 (w % 2 ^ nbits)), snapshot := s.inputs, wait := 0 } := rfl
@[simp] theorem State.withFetchWord_host (s : State) (nbits w : Nat) : (s.withFetchWord nbits w).host = s.host := rfl
@[simp] theorem State.withFetchWord_resetSchedule (s : State) (nbits w : Nat) : (s.withFetchWord nbits w).resetSchedule = [] := rfl
@[simp] theorem State.withFetchWord_launches (s : State) (nbits w : Nat) : (s.withFetchWord nbits w).launches = s.launches + 1 := rfl
@[simp] theorem State.withFetchWord_resets (s : State) (nbits w : Nat) : (s.withFetchWord nbits w).resets = s.resets := rfl

/-! ### With no reset event to come, a step is not counted -/

@[simp] theorem State.tick_of_none {s : State} (h : s.resetSchedule = []) : s.tick = s := by
  cases s; cases h; rfl

/-! ### STATUS -/

@[simp] theorem Status.launched_done (st : Status) : st.launched.done = false := rfl
@[simp] theorem Status.launched_err (st : Status) : st.launched.err = false := rfl
@[simp] theorem Status.launched_ovr (st : Status) : st.launched.ovr = st.ovr := rfl
@[simp] theorem Status.launched_keyed (st : Status) : st.launched.keyed = st.keyed := rfl
@[simp] theorem Status.launched_errcode (st : Status) : st.launched.errcode = 0#4 := rfl
@[simp] theorem Status.completed_done (st : Status) (c : BitVec 4) : (st.completed c).done = true := rfl
@[simp] theorem Status.completed_err (st : Status) (c : BitVec 4) : (st.completed c).err = decide (c ≠ 0#4) := rfl
@[simp] theorem Status.completed_ovr (st : Status) (c : BitVec 4) : (st.completed c).ovr = st.ovr := rfl
@[simp] theorem Status.completed_keyed (st : Status) (c : BitVec 4) : (st.completed c).keyed = st.keyed := rfl
@[simp] theorem Status.completed_errcode (st : Status) (c : BitVec 4) : (st.completed c).errcode = c := rfl
@[simp] theorem Status.w1c_done (st : Status) (v : Word) : (st.writeOneToClear v).done = (st.done && !v.getLsbD 1) := rfl
@[simp] theorem Status.w1c_err (st : Status) (v : Word) : (st.writeOneToClear v).err = (st.err && !v.getLsbD 2) := rfl
@[simp] theorem Status.w1c_ovr (st : Status) (v : Word) : (st.writeOneToClear v).ovr = (st.ovr && !v.getLsbD 3) := rfl
@[simp] theorem Status.w1c_keyed (st : Status) (v : Word) : (st.writeOneToClear v).keyed = st.keyed := rfl
@[simp] theorem Status.w1c_errcode (st : Status) (v : Word) :
    (st.writeOneToClear v).errcode = if v.getLsbD 2 then 0#4 else st.errcode := rfl

/-! ### BUSY and the inputs, across the updates -/

@[simp] theorem State.launchWith_busy (s : State) (n : Nat) (w : Word) : (s.launchWith n w).busy = true := rfl
@[simp] theorem State.launch_busy (s : State) (w : Word) : (s.launch w).busy = true := rfl
@[simp] theorem State.finish_busy (s : State) (c : BitVec 4) : (s.finish c).busy = false := rfl
@[simp] theorem State.tick_busy (s : State) : s.tick.busy = s.busy := rfl
@[simp] theorem State.dropWrite_busy (s : State) : s.dropWrite.busy = s.busy := rfl
@[simp] theorem State.spend_busy (s : State) : s.spend.busy = s.busy := by
  unfold State.busy State.spend; cases s.latch <;> rfl
@[simp] theorem State.tick_inputs (s : State) : s.tick.inputs = s.inputs := rfl
@[simp] theorem State.spend_inputs (s : State) : s.spend.inputs = s.inputs := rfl
@[simp] theorem State.dropWrite_inputs (s : State) : s.dropWrite.inputs = s.inputs := rfl
@[simp] theorem State.launchWith_inputs (s : State) (n : Nat) (w : Word) : (s.launchWith n w).inputs = s.inputs := rfl
@[simp] theorem State.launch_inputs (s : State) (w : Word) : (s.launch w).inputs = s.inputs := rfl
@[simp] theorem State.tick_operands (s : State) : s.tick.operands = s.operands := rfl
@[simp] theorem State.tick_message (s : State) : s.tick.message = s.message := rfl
@[simp] theorem State.launchWith_operands (s : State) (n : Nat) (w : Word) : (s.launchWith n w).operands = s.inputs := rfl
@[simp] theorem State.spend_operands (s : State) : s.spend.operands = s.operands := by
  unfold State.operands State.spend; cases s.latch <;> rfl

/-- The inputs of a command in flight are the latched ones (R232). -/
theorem State.operands_of_latch {s : State} {l : Latch} (h : s.latch = some l) : s.operands = l.snapshot := by
  simp [State.operands, h]

/-- With no command in flight they are the registers' own. -/
theorem State.operands_of_idle {s : State} (h : s.latch = none) : s.operands = s.inputs := by
  simp [State.operands, h]

end Sys2Proof.Machine
end

