-- ==== Sys2Proof/Laws/Ops.lean ====
section
/-! SUPPORT. What each shared operation can do, said once. -/

namespace Sys2Proof.Machine

/-- A bus write answers with ERROR and changes nothing, or drops the write because BUSY = 1, or does what the location's rule
says (R83). -/
theorem busWrite_cases (s : State) (off : Offset) (v : Word) :
    s.busWrite off v = (.error, s) ∨
    (∃ l, locate s.cfg.msgMax off = .loc l ∧ s.busy = true ∧ l.busyLocked = true ∧ s.busWrite off v = (.okay, s.dropWrite)) ∨
    (∃ l, locate s.cfg.msgMax off = .loc l ∧ l.readOnly = false ∧ (s.busy = true → l.busyLocked = false) ∧
      s.busWrite off v = (.okay, s.writeLoc v l)) := by
  unfold State.busWrite
  split
  · exact .inl rfl
  · exact .inl rfl
  · rename_i l hl
    by_cases hr : l.readOnly
    · exact .inl (by simp [hr])
    · by_cases hb : (s.busy && l.busyLocked) = true
      · refine .inr (.inl ⟨l, hl, ?_, ?_, by simp [hr, hb]⟩) <;> simp_all
      · refine .inr (.inr ⟨l, hl, by simpa using hr, ?_, by simp [hr, hb]⟩)
        intro h; simpa [h] using hb

/-- A bus read answers with data 0, or with what the location holds (R82, R92). -/
theorem busRead_cases (s : State) (off : Offset) :
    s.busRead off = (.error, 0#32) ∨
    (∃ l, locate s.cfg.msgMax off = .loc l ∧
      s.busRead off = (.okay, if s.busy && l.busyGated then 0#32 else s.readLoc l)) := by
  unfold State.busRead
  split
  · exact .inl rfl
  · exact .inl rfl
  · rename_i l hl; exact .inr ⟨l, hl, rfl⟩

/-- What a command's completion can be (R233): an error that changes only STATUS, or the writes of that command's rule. -/
theorem exec_cases (i : Instr) (s : State) :
    (∃ e : CmdError, exec i s = .next (s.finish e.code)) ∨
    (i = .nop ∧ exec i s = .next (s.finish 0#4)) ∨
    (i = .ksched ∧ 4 ≤ s.operands.keylen.toNat ∧ s.operands.keylen.toNat ≤ 56 ∧ 4168 ≤ s.cfg.ctLen ∧
      exec i s = .next (State.finish { s with
        cipher := deriveCipher s.cfg.constTable s.operands.key s.operands.keylen.toNat
        status := { s.status with keyed := true } } 0#4)) ∨
    (i = .clrkey ∧ exec i s = .next (State.finish { s with
        cipher := CipherState.zero, status := { s.status with keyed := false } } 0#4)) ∨
    (i = .feval ∧ s.operands.keyed = true ∧
      exec i s = .next (State.finish { s with fout := s.operands.cipher.f s.operands.xl } 0#4)) ∨
    (∃ b : Block, (i = .encb ∧ b = s.operands.cipher.encBlock { xl := s.operands.xl, xr := s.operands.xr } ∨
        i = .decb ∧ b = s.operands.cipher.decBlock { xl := s.operands.xl, xr := s.operands.xr }) ∧
      s.operands.keyed = true ∧ exec i s = .next (State.finish { s with xl := b.xl, xr := b.xr } 0#4)) ∨
    (∃ (r : List Byte) (n : Nat),
      (i = .encm ∧ r = mapBlocks s.operands.cipher.encBlock (pad s.message) ∧ n = r.length ∨
        i = .decm ∧ s.operands.msglen.toNat % 8 = 0 ∧ r = mapBlocks s.operands.cipher.decBlock s.message ∧
          n = (strip r).length) ∧
      s.operands.keyed = true ∧ s.operands.msglen.toNat ≤ s.cfg.msgMax ∧
      exec i s = .next ((s.writeResult r n).finish 0#4)) := by
  cases i with
  | nop => exact .inr (.inl ⟨rfl, rfl⟩)
  | clrkey => exact .inr (.inr (.inr (.inl ⟨rfl, rfl⟩)))
  | ksched =>
    by_cases h1 : s.operands.keylen.toNat < 4 ∨ 56 < s.operands.keylen.toNat
    · exact .inl ⟨.invalidKeyLength, by simp [exec, execKsched, raise, h1]⟩
    · by_cases h2 : s.cfg.ctLen < 4168
      · exact .inl ⟨.insufficientConstantData, by simp [exec, execKsched, raise, h1, h2]⟩
      · refine .inr (.inr (.inl ⟨rfl, by omega, by omega, by omega, ?_⟩))
        simp [exec, execKsched, succeed, h1, h2]
  | feval =>
    by_cases h : s.operands.keyed
    · exact .inr (.inr (.inr (.inr (.inl ⟨rfl, h, by simp [exec, execFeval, succeed, h]⟩))))
    · exact .inl ⟨.notKeyed, by simp [exec, execFeval, raise, h]⟩
  | encb =>
    by_cases h : s.operands.keyed
    · exact .inr (.inr (.inr (.inr (.inr (.inl ⟨_, .inl ⟨rfl, rfl⟩, h, by simp [exec, execEncb, succeed, h]⟩)))))
    · exact .inl ⟨.notKeyed, by simp [exec, execEncb, raise, h]⟩
  | decb =>
    by_cases h : s.operands.keyed
    · exact .inr (.inr (.inr (.inr (.inr (.inl ⟨_, .inr ⟨rfl, rfl⟩, h, by simp [exec, execDecb, succeed, h]⟩)))))
    · exact .inl ⟨.notKeyed, by simp [exec, execDecb, raise, h]⟩
  | encm =>
    by_cases h : s.operands.keyed
    · by_cases h2 : s.cfg.msgMax < s.operands.msglen.toNat
      · exact .inl ⟨.lengthOverflow, by simp [exec, execEncm, raise, h, h2]⟩
      · exact .inr (.inr (.inr (.inr (.inr (.inr ⟨_, _, .inl ⟨rfl, rfl, rfl⟩, h, by omega,
          by simp [exec, execEncm, succeed, h, h2]⟩)))))
    · exact .inl ⟨.notKeyed, by simp [exec, execEncm, raise, h]⟩
  | decm =>
    by_cases h : s.operands.keyed
    · by_cases h2 : s.cfg.msgMax < s.operands.msglen.toNat
      · exact .inl ⟨.lengthOverflow, by simp [exec, execDecm, raise, h, h2]⟩
      · by_cases h3 : s.operands.msglen.toNat % 8 = 0
        · exact .inr (.inr (.inr (.inr (.inr (.inr ⟨_, _, .inr ⟨rfl, h3, rfl, rfl⟩, h, by omega,
            by simp [exec, execDecm, succeed, h, h2, h3]⟩)))))
        · exact .inl ⟨.invalidCiphertextLength, by simp [exec, execDecm, raise, h, h2, h3]⟩
    · exact .inl ⟨.notKeyed, by simp [exec, execDecm, raise, h]⟩

/-- What the host's step can do (R121): nothing, a change of the host agent alone, a bus write, or the fault of an undefined
label. -/
theorem hostStep_cases (s : State) :
    (s.host.active = false ∧ (hostStep s = .next s ∨ hostStep s = .next s.spend)) ∨
    (∃ h : HostAgent, h.program = s.host.program ∧ hostStep s = .next { s.spend with host := h }) ∨
    (∃ (off : Offset) (v : Word) (h : HostAgent), s.host.current = some (.wr off v) ∧ h.program = s.host.program ∧
      hostStep s = .next { (s.spend.busWrite off v).2 with host := h }) ∨
    (∃ name : Nat, labelPosition s.host.program name = none ∧ (∃ st, s.host.current = some st ∧ st.target = some name) ∧
      hostStep s = .fault (.undefinedLabel name)) := by
  unfold hostStep
  have hjump : ∀ (name : Nat) (st : Stmt), s.host.current = some st → st.target = some name →
      (∃ h : HostAgent, h.program = s.host.program ∧
        s.spend.withHost (s.spend.host.jump name) = .next { s.spend with host := h }) ∨
      (labelPosition s.host.program name = none ∧
        s.spend.withHost (s.spend.host.jump name) = .fault (.undefinedLabel name)) := by
    intro name st _ _
    simp only [State.spend_host, HostAgent.jump]
    cases hp : labelPosition s.host.program name with
    | none => exact .inr ⟨rfl, rfl⟩
    | some n => refine .inl ⟨_, ?_, rfl⟩; rfl
  cases hc : s.host.current with
  | none => exact .inl ⟨by simp [HostAgent.active, hc], .inl rfl⟩
  | some st =>
    cases st with
    | halt => exact .inl ⟨by simp [HostAgent.active, hc], .inr rfl⟩
    | wr off v =>
      refine .inr (.inr (.inl ⟨off, v, _, rfl, ?_, rfl⟩)); rfl
    | rd off => refine .inr (.inl ⟨_, ?_, rfl⟩); rfl
    | label n => refine .inr (.inl ⟨_, ?_, rfl⟩); rfl
    | expect v => refine .inr (.inl ⟨_, ?_, rfl⟩); rfl
    | bit1 b name =>
      simp only [hostExec]
      split
      · rcases hjump name _ hc rfl with ⟨h, hp, e⟩ | ⟨hn, e⟩
        · exact .inr (.inl ⟨h, hp, e⟩)
        · exact .inr (.inr (.inr ⟨name, hn, ⟨_, rfl, rfl⟩, e⟩))
      · refine .inr (.inl ⟨_, ?_, rfl⟩); rfl
    | bit0 b name =>
      simp only [hostExec]
      split
      · refine .inr (.inl ⟨_, ?_, rfl⟩); rfl
      · rcases hjump name _ hc rfl with ⟨h, hp, e⟩ | ⟨hn, e⟩
        · exact .inr (.inl ⟨h, hp, e⟩)
        · exact .inr (.inr (.inr ⟨name, hn, ⟨_, rfl, rfl⟩, e⟩))

/-- Whose turn it is, and when (R235, R402). -/
theorem turn_cases (s : State) :
    (s.turn = .reset ∧ ∃ later, s.resetSchedule = 0 :: later) ∨
    ((∀ later, s.resetSchedule ≠ 0 :: later) ∧
      ((∃ l, s.latch = some l ∧ s.turn = .engine l.cmd ∧ (l.wait = 0 ∨ s.host.active = false)) ∨
        (s.turn = .host ∧ (s.latch = none ∨ ∃ l, s.latch = some l ∧ l.wait ≠ 0 ∧ s.host.active = true)))) := by
  unfold State.turn
  split
  · rename_i later h; exact .inl ⟨rfl, later, h⟩
  all_goals
    rename_i h
    refine .inr ⟨by simp [h], ?_⟩
    cases hl : s.latch with
    | none => exact .inr ⟨rfl, .inl rfl⟩
    | some l =>
      by_cases hw : (decide (l.wait = 0) || !s.host.active) = true
      · left; exact ⟨l, rfl, by simp only [hw, if_true], by simpa using hw⟩
      · right
        refine ⟨by simp only [hw]; rfl, .inr ⟨l, rfl, ?_⟩⟩
        simp at hw; exact hw

/-- What one step can do (R235). -/
theorem step_cases (s : State) :
    (s.turn = .reset ∧ step s = .next s.blockReset) ∨
    (∃ i, s.turn = .engine (.op i) ∧ step s = exec i s.tick) ∨
    (s.turn = .engine .illegal ∧ step s = .next (s.tick.finish 5#4)) ∨
    (s.turn = .host ∧ step s = hostStep s.tick) := by
  unfold step
  cases h : s.turn with
  | reset => exact .inl ⟨rfl, rfl⟩
  | host => exact .inr (.inr (.inr ⟨rfl, rfl⟩))
  | engine c =>
    cases c with
    | op i => exact .inr (.inl ⟨i, rfl, rfl⟩)
    | illegal => exact .inr (.inr (.inl ⟨rfl, rfl⟩))

/-- With no reset event to come, the schedule does not move. -/
theorem tick_of_nil (s : State) (h : s.resetSchedule = []) : s.tick = s := by
  cases s; simp at h; subst h; rfl

@[simp] theorem spend_busy (s : State) : s.spend.busy = s.busy := by simp [State.spend, State.busy]

/-- A run of one step more begins with that step. -/
theorem run_succ {s t : State} (k : Nat) (h : step s = .next t) : Sys2Proof.core.run (k + 1) s = Sys2Proof.core.run k t := by
  have e : Sys2Proof.core.step s = .next t := h
  simp only [Host.Core.run, e]

/-- How to show that a step keeps a property: by each of the operations it can use. -/
theorem step_keeps (Inv : State → Prop) (hreset : ∀ s, Inv s → Inv s.blockReset) (htick : ∀ s, Inv s → Inv s.tick)
    (hspend : ∀ s, Inv s → Inv s.spend) (hhost : ∀ (s : State) (h : HostAgent), Inv s → Inv { s with host := h })
    (hillegal : ∀ s : State, Inv s → Inv (s.finish 5#4)) (hexec : ∀ i s t, Inv s → exec i s = .next t → Inv t)
    (hdrop : ∀ s : State, Inv s → Inv s.dropWrite)
    (hwrite : ∀ (s : State) (v : Word) (off : Offset) (l : Loc), locate s.cfg.msgMax off = .loc l → l.readOnly = false →
      (s.busy = true → l.busyLocked = false) → Inv s → Inv (s.writeLoc v l))
    (s t : State) (hi : Inv s) (hs : step s = .next t) : Inv t := by
  rcases step_cases s with ⟨_, h⟩ | ⟨i, _, h⟩ | ⟨_, h⟩ | ⟨_, h⟩ <;> rw [hs] at h
  · cases h; exact hreset _ hi
  · exact hexec i _ _ (htick _ hi) h.symm
  · cases h; exact hillegal _ (htick _ hi)
  · have k := hspend _ (htick _ hi)
    rcases hostStep_cases s.tick with ⟨_, e | e⟩ | ⟨_, _, e⟩ | ⟨off, v, _, _, _, e⟩ | ⟨_, _, _, e⟩ <;> rw [← h] at e <;> cases e
    · exact htick _ hi
    · exact k
    · exact hhost _ _ k
    · apply hhost
      rcases busWrite_cases s.tick.spend off v with e | ⟨l, _, _, _, e⟩ | ⟨l, h1, h2, h3, e⟩ <;> rw [e]
      · exact k
      · exact hdrop _ k
      · exact hwrite _ v off l h1 h2 h3 k

/-- Every command completes (R234). -/
theorem exec_next (i : Instr) (s : State) : ∃ u code, exec i s = .next (State.finish u code) := by
  rcases exec_cases i s with ⟨e, h⟩ | ⟨_, h⟩ | ⟨_, _, _, _, h⟩ | ⟨_, h⟩ | ⟨_, _, h⟩ | ⟨_, _, _, h⟩ | ⟨_, _, _, _, _, h⟩ <;>
    exact ⟨_, _, h⟩

end Sys2Proof.Machine
end

