-- ==== Sys2Proof/Laws/PerInstr.lean ====
section
/-! SUPPORT. Per-instruction families (LAWS.json). -/

namespace Sys2Proof.Laws.RoundTrip

/-- The word of R112 decodes back to its command, has no reserved bit set, and its opcode is below 8. -/
def Statement (i : Instr) : Prop :=
  decode (encode i) = .op i ∧ (encode i).extractLsb' 8 24 = 0#24 ∧ (encode i).toNat < 8

theorem nop : Statement .nop := by unfold Statement; decide
theorem ksched : Statement .ksched := by unfold Statement; decide
theorem encb : Statement .encb := by unfold Statement; decide
theorem decb : Statement .decb := by unfold Statement; decide
theorem encm : Statement .encm := by unfold Statement; decide
theorem decm : Statement .decm := by unfold Statement; decide
theorem feval : Statement .feval := by unfold Statement; decide
theorem clrkey : Statement .clrkey := by unfold Statement; decide

end Sys2Proof.Laws.RoundTrip
end

