-- ==== Sys2Proof/Tests/Slice0.lean ====
section
/-! SUPPORT. The model's own tests. Expected values are the spec's worked rows (95_test_vectors.md) or hand calculations from its
rules; and for each statement with hypotheses, one concrete input that meets them all. -/

namespace Sys2Proof.Tests

open Sys2Proof Sys2Proof.Machine Sys2Proof.Spec

set_option Elab.async false

/-! ### Helpers -/

/-- The state an outcome goes on with. -/
def nextState : Host.Outcome State Fault Refusal → State
  | .next t => t
  | .fault _ => State.reset
  | .refused _ => State.reset

/-- The state after the command word has run in one step. -/
def after (s : State) (w : Nat) : State := nextState (step (s.withFetchWord 32 w))

/-- The STATUS word. -/
def statusOf (s : State) : Word := s.status.word s.busy

/-- A small keyed state: a buffer capacity of 16 bytes, and this CipherState. -/
def keyedWith (c : CipherState) : State :=
  { State.reset with
    cfg := { constTable := defaultTable, msgMax := 16 }
    cipher := c
    status := { State.reset.status with keyed := true } }

/-- The keyed state with P and S all 0, under which a block function only exchanges the halves. -/
def keyed : State := keyedWith CipherState.zero

/-- A state with a command in flight that does not complete before 3 host steps. -/
def busy (i : Instr) : State :=
  { State.launchWith 3 State.reset (encode i) with
    host := { State.reset.host with program := [.rd 0x0014#16, .wr 0x0028#16 0x11111111#32, .wr 0x0014#16 0x8#32, .halt] } }

/-- A legal key length in KEYLEN. -/
def withKey (len : BitVec 8) : State := { State.reset with keylen := len }

/-- A message in IN, of `n` bytes. -/
def withMessage (bytes : List Byte) (n : Word) : State := { keyed with inBuf := Memory.ofBytes 0 bytes, msglen := n }

/-! ### Well-formedness: what each check refuses -/

theorem test_wf_msgmax_not_multiple : Config.wf { constTable := [], msgMax := 12 } = false := by decide
theorem test_wf_msgmax_zero : Config.wf { constTable := [], msgMax := 0 } = false := by decide
theorem test_wf_msgmax_too_big : Config.wf { constTable := [], msgMax := 4104 } = false := by decide
theorem test_wf_msgmax_legal :
    Config.wf { constTable := [], msgMax := 8 } = true ∧ Config.wf { constTable := [], msgMax := 4096 } = true := by decide
theorem test_conforming_short_table : Config.conforming { constTable := [0#8], msgMax := 4096 } = false := by decide
theorem test_conforming_default : defaultConfig.conforming = true := by decide +kernel
theorem test_loc_wf_past_buffers :
    Loc.wf { constTable := [], msgMax := 8 } (.inWord 2) = false ∧ Loc.wf { constTable := [], msgMax := 8 } (.outWord 2) = false ∧
    Loc.wf { constTable := [], msgMax := 8 } (.inWord 1) = true := by decide
theorem test_program_label_undefined : labelsDefined [.bit1 0 7, .halt] = false ∧ programWf [.bit1 0 7, .halt] = false := by decide
theorem test_program_label_twice :
    labelsDistinct [.label 1, .label 1, .halt] = false ∧ programWf [.label 1, .label 1, .halt] = false := by decide
theorem test_program_no_halt : endsInHalt [.rd 0x0014#16] = false ∧ programWf [.rd 0x0014#16] = false := by decide
theorem test_program_wf : programWf (asmRun .encb 0 ++ [.halt]) = true := by decide

/-! ### Decoding: words written out from R112 -/

theorem test_decode_nop : decode 0b00000000000000000000000000000000#32 = .op .nop := by decide
theorem test_decode_ksched : decode 0b00000000000000000000000000000001#32 = .op .ksched := by decide
theorem test_decode_encb : decode 0b00000000000000000000000000000010#32 = .op .encb := by decide
theorem test_decode_decb : decode 0b00000000000000000000000000000011#32 = .op .decb := by decide
theorem test_decode_encm : decode 0b00000000000000000000000000000100#32 = .op .encm := by decide
theorem test_decode_decm : decode 0b00000000000000000000000000000101#32 = .op .decm := by decide
theorem test_decode_feval : decode 0b00000000000000000000000000000110#32 = .op .feval := by decide
theorem test_decode_clrkey : decode 0b00000000000000000000000000000111#32 = .op .clrkey := by decide

/-- The illegal words of 95_test_vectors.md section 3.5. -/
theorem test_decode_illegal :
    decode 0x00000008#32 = .illegal ∧ decode 0x000000FF#32 = .illegal ∧ decode 0x00000100#32 = .illegal ∧
    decode 0x80000002#32 = .illegal := by decide

theorem test_decode_table_words :
    decodeTableWord 32 6 = some .feval ∧ decodeTableWord 8 7 = some .clrkey ∧ decodeTableWord 32 0x100 = none := by decide

/-- The map of R37 at its edges. -/
theorem test_locate_edges :
    locate 16 0x0030#16 = .loc .fout ∧ locate 16 0x0034#16 = .reserved ∧ locate 16 0x0074#16 = .loc (.key 13) ∧
    locate 16 0x00C4#16 = .loc (.p 17) ∧ locate 16 0x1A00#16 = .loc (.s 2 128) ∧ locate 16 0x1FFC#16 = .loc (.s 3 255) ∧
    locate 16 0x200C#16 = .loc (.inWord 3) ∧ locate 16 0x2010#16 = .reserved ∧ locate 16 0x300C#16 = .loc (.outWord 3) ∧
    locate 16 0x3010#16 = .reserved ∧ locate 4096 0x3FFC#16 = .loc (.outWord 1023) ∧ locate 16 0x0016#16 = .misaligned := by
  decide

/-! ### Commands (the status words are those of 95_test_vectors.md) -/

theorem test_nop : statusOf (after State.reset 0) = 0x00000002#32 ∧ statusOf (after keyed 0) = 0x00000012#32 := by decide +kernel
theorem test_illegal : statusOf (after State.reset 0x80000002) = 0x00000506#32 ∧ statusOf (after keyed 8) = 0x00000516#32 := by
  decide +kernel

theorem test_ksched_key_length :
    statusOf (after (withKey 3#8) 1) = 0x00000106#32 ∧ statusOf (after (withKey 57#8) 1) = 0x00000106#32 ∧
    statusOf (after (withKey 4#8) 1) = 0x00000012#32 ∧ statusOf (after (withKey 56#8) 1) = 0x00000012#32 := by decide +kernel

/-- Section 3.1, `L_CT` = 4167: code 3 for a legal key length, code 1 first for an illegal one. -/
theorem test_ksched_short_table :
    statusOf (after { withKey 8#8 with cfg := { constTable := defaultTable.take 4167, msgMax := 16 } } 1) = 0x00000306#32 ∧
    statusOf (after { withKey 3#8 with cfg := { constTable := defaultTable.take 4167, msgMax := 16 } } 1) = 0x00000106#32 := by
  decide +kernel

/-- Section 3.1, step 1. -/
theorem test_table_words :
    ctWord defaultTable 0 = 0x243F6A88#32 ∧ ctWord defaultTable 17 = 0x8979FB1B#32 ∧ ctWord defaultTable 18 = 0xD1310BA6#32 ∧
    ctWord defaultTable 1041 = 0x3AC372E6#32 := by decide +kernel

/-- Section 3.1, step 2: the key words of "TESTKEY1" alternate. -/
theorem test_key_words :
    keyWord ((Vector.replicate 14 0#32).set 0 0x54455354#32 |>.set 1 0x4B455931#32) 8 0 = 0x54455354#32 ∧
    keyWord ((Vector.replicate 14 0#32).set 0 0x54455354#32 |>.set 1 0x4B455931#32) 8 17 = 0x4B455931#32 := by decide +kernel

/-- The row of section 3.2 for x = 01234567: only the four words it indexes are set. -/
def fRow : CipherState :=
  { p := Vector.replicate 18 0#32,
    s := #v[(Vector.replicate 256 0#32).set 0x01 0xCC73A6D2#32, (Vector.replicate 256 0#32).set 0x23 0x008C0EF8#32,
      (Vector.replicate 256 0#32).set 0x45 0xD54337A9#32, (Vector.replicate 256 0#32).set 0x67 0x9864832E#32] }

/-- The row of section 3.2 for x = 01010101, where both sums wrap. -/
def fWrap : CipherState :=
  { p := Vector.replicate 18 0#32,
    s := #v[Vector.replicate 256 0xCC73A6D2#32, Vector.replicate 256 0xC1E2F578#32, Vector.replicate 256 0x5378268F#32,
      Vector.replicate 256 0xB61E15F6#32] }

theorem test_feval :
    (after { keyedWith fRow with xl := 0x01234567#32 } 6).fout = 0xB2210591#32 ∧
    (after { keyedWith fWrap with xl := 0x01010101#32 } 6).fout = 0x934CD0BB#32 := by decide +kernel

theorem test_feval_unkeyed : statusOf (after State.reset 6) = 0x00000406#32 := by decide +kernel

/-- With P[0] = 1 alone, by hand from R162: the halves come back exchanged, XR with 1 XORed in. -/
theorem test_encb :
    let t := after { keyedWith { CipherState.zero with p := CipherState.zero.p.set 0 1#32 } with xl := 0x10#32, xr := 0x20#32 } 2
    t.xl = 0x20#32 ∧ t.xr = 0x11#32 ∧ statusOf t = 0x00000012#32 := by decide +kernel

theorem test_decb :
    let t := after { keyedWith { CipherState.zero with p := CipherState.zero.p.set 0 1#32 } with xl := 0x20#32, xr := 0x11#32 } 3
    t.xl = 0x10#32 ∧ t.xr = 0x20#32 := by decide +kernel

theorem test_encb_unkeyed :
    statusOf (after { State.reset with xl := 5#32 } 2) = 0x00000406#32 ∧ (after { State.reset with xl := 5#32 } 2).xl = 5#32 := by
  decide +kernel

/-- "AB" padded to one block, its halves exchanged (P and S are 0); OUT is 0x00 from OUTLEN on. -/
theorem test_encm :
    let t := after (withMessage [0x41#8, 0x42#8] 2#32) 4
    (List.range 16).map t.outByte = [0#8, 0#8, 0#8, 0#8, 0x41#8, 0x42#8, 0#8, 0#8, 0#8, 0#8, 0#8, 0#8, 0#8, 0#8, 0#8, 0#8] ∧
    t.outlen = 8#32 := by decide +kernel

/-- MSGLEN = MSG_MAX + 1 reports code 6 and leaves OUTLEN. -/
theorem test_encm_overflow :
    statusOf (after (withMessage [] 17#32) 4) = 0x00000616#32 ∧ (after (withMessage [] 17#32) 4).outlen = 0#32 := by decide +kernel

/-- The ciphertext of `test_encm` comes back as "AB", its trailing zeros stripped. -/
theorem test_decm :
    let t := after (withMessage [0#8, 0#8, 0#8, 0#8, 0x41#8, 0x42#8, 0#8, 0#8] 8#32) 5
    t.outByte 0 = 0x41#8 ∧ t.outByte 1 = 0x42#8 ∧ t.outByte 2 = 0#8 ∧ t.outlen = 2#32 := by decide +kernel

/-- Section 3.4: length 7 reports code 2; a length past MSG_MAX reports code 6, before the mod-8 check. -/
theorem test_decm_lengths :
    statusOf (after (withMessage [] 7#32) 5) = 0x00000216#32 ∧ statusOf (after (withMessage [] 17#32) 5) = 0x00000616#32 ∧
    statusOf (after (withMessage [] 0#32) 5) = 0x00000012#32 := by decide +kernel

/-- CLRKEY from a keyed state, section 3.1: STATUS 2, the windows read 0, KEYLEN stays. -/
theorem test_clrkey :
    let t := after { keyedWith fWrap with keylen := 8#8 } 7
    statusOf t = 0x00000002#32 ∧ t.cipher.s[0][0] = 0#32 ∧ t.keylen = 8#8 := by decide +kernel

theorem test_strip :
    strip [0#8, 0x41#8, 0#8, 0x42#8, 0#8, 0#8] = [0#8, 0x41#8, 0#8, 0x42#8] ∧ strip [0#8, 0#8] = [] := by decide

/-- Row E5 of section 1. -/
theorem test_padLen : [0, 1, 7, 8, 9, 11, 16, 4096].map padLen = [8, 8, 8, 8, 16, 16, 16, 4096] := by decide

/-! ### The bus (section 3.6) -/

theorem test_bus_reads :
    State.reset.busRead 0x0000#16 = (.okay, 0x42464B53#32) ∧ State.reset.busRead 0x0004#16 = (.okay, 0x00000100#32) ∧
    State.reset.busRead 0x0008#16 = (.okay, 0x00001000#32) ∧ State.reset.busRead 0x000C#16 = (.okay, 0x00001048#32) ∧
    State.reset.busRead 0x0010#16 = (.okay, 0#32) ∧ State.reset.busRead 0x0016#16 = (.error, 0#32) ∧
    State.reset.busRead 0x4000#16 = (.error, 0#32) ∧ (keyedWith fWrap).busRead 0x1FFC#16 = (.okay, 0xB61E15F6#32) := by
  decide +kernel

theorem test_bus_irqen_keylen :
    (State.reset.busWrite 0x0018#16 0xFFFFFFFF#32).2.busRead 0x0018#16 = (.okay, 7#32) ∧
    (State.reset.busWrite 0x001C#16 0x00000138#32).2.busRead 0x001C#16 = (.okay, 0x38#32) ∧
    (State.reset.busWrite 0x0000#16 5#32).1 = .error ∧ (State.reset.busWrite 0x0080#16 5#32).1 = .error := by decide +kernel

theorem test_bus_status_clear :
    statusOf ((after State.reset 2).busWrite 0x0014#16 0x0000000E#32).2 = 0#32 ∧
    statusOf ((after keyed 0).busWrite 0x0014#16 0x00000011#32).2 = 0x00000012#32 := by decide +kernel

theorem test_bus_busy :
    ((busy .nop).busWrite 0x0028#16 1#32).1 = .okay ∧ ((busy .nop).busWrite 0x0028#16 1#32).2.xl = 0#32 ∧
    statusOf ((busy .nop).busWrite 0x0028#16 1#32).2 = 0x00000009#32 ∧ (busy .nop).busRead 0x0080#16 = (.okay, 0#32) := by
  decide +kernel

/-- The packing of R47 and R55, and unaligned order of writes in IN. -/
theorem test_bus_packing :
    (((State.reset.busWrite 0x2004#16 0x05060708#32).2.busWrite 0x2000#16 0x01020304#32).2).inBuf =
      [(0, 1#8), (1, 2#8), (2, 3#8), (3, 4#8), (4, 5#8), (5, 6#8), (6, 7#8), (7, 8#8)] ∧
    keyByte (State.reset.busWrite 0x0040#16 0x54455354#32).2.key 1 = 0x45#8 := by decide +kernel

/-- irq, the rows after section 3.6's table. -/
theorem test_irq :
    (after { State.reset with irqen := IrqEnables.ofWord 1#32 } 0).irq = true ∧
    ((after { State.reset with irqen := IrqEnables.ofWord 1#32 } 0).busWrite 0x0014#16 2#32).2.irq = false ∧
    (after { State.reset with irqen := IrqEnables.ofWord 2#32 } 0).irq = false ∧
    (after { State.reset with irqen := IrqEnables.ofWord 2#32 } 8).irq = true := by decide +kernel

/-! ### The host program -/

/-- Program 1's transactions 1 to 3, and program 2's 6 to 9. -/
theorem test_asm_setkey_setin :
    asmSetkey [0x54#8, 0x45#8, 0x53#8, 0x54#8, 0x4B#8, 0x45#8, 0x59#8, 0x31#8] =
      [.wr 0x0040#16 0x54455354#32, .wr 0x0044#16 0x4B455931#32, .wr 0x001C#16 8#32] ∧
    asmSetin [0x48#8, 0x45#8, 0x4C#8, 0x4C#8, 0x4F#8] =
      [.wr 0x2000#16 0x48454C4C#32, .wr 0x2004#16 0x4F000000#32, .wr 0x0020#16 5#32] := by decide

/-- A host step while busy: the read of STATUS goes to `t`, and one of the host steps before the completion has passed. -/
theorem test_host_read :
    (nextState (step (busy .nop))).host.t = 1#32 ∧ ((nextState (step (busy .nop))).latch.map Latch.wait) = some 2 := by
  decide +kernel

/-- The fault an outcome stops with. -/
def faultOf : Host.Outcome State Fault Refusal → Option Fault
  | .next _ => none
  | .fault e => some e
  | .refused _ => none

/-- A taken branch goes to its label; an undefined one is the model's fault. -/
theorem test_host_branch :
    (nextState (step { State.reset with host := { State.reset.host with
      program := [.label 4, .bit0 0 4], pos := 1 } })).host.pos = 0 ∧
    faultOf (step { State.reset with host := { State.reset.host with program := [.bit0 0 4] } }) = some (.undefinedLabel 4) := by
  decide +kernel

theorem test_memory_rewrite : Memory.write [(0, 1#8), (2, 3#8)] 2 9#8 = [(0, 1#8), (2, 9#8)] ∧
    Memory.write [(0, 1#8), (2, 3#8)] 1 9#8 = [(0, 1#8), (1, 9#8), (2, 3#8)] := by decide

/-! ### Inputs that meet the statements' hypotheses -/

theorem test_witness_ResetStateIsIdleAndResetEventsAreTaken : ({ busy .nop with resetSchedule := [0] } : State).resetSchedule = 0 :: [] := rfl

theorem test_witness_DecodeOfEveryWord :
    (0x00000008#32).extractLsb' 8 24 = 0#24 ∧ 8 ≤ ((0x00000008#32).extractLsb' 0 8).toNat ∧
    (0x00000100#32).extractLsb' 8 24 ≠ 0#24 ∧ (0x80000007#32).extractLsb' 8 24 ≠ 0#24 := by decide

theorem test_witness_DecodeAgreesWithEncode : Instr.wf .nop = true ∧ Instr.wf .clrkey = true := by decide

theorem test_witness_RegisterMapRoundTrip :
    keyed.cfg.wf = true ∧ Loc.wf keyed.cfg (.inWord 3) = true ∧ Loc.wf keyed.cfg (.outWord 3) = true ∧
    Loc.wf keyed.cfg .id = true ∧ Loc.wf keyed.cfg (.s 3 255) = true ∧
    locate keyed.cfg.msgMax 0x200C#16 = .loc (.inWord 3) ∧ locate keyed.cfg.msgMax 0x0000#16 = .loc .id := by decide +kernel

/-- Both ends of each range; the ranges do not overlap. -/
theorem test_witness_MisalignedOrReservedAccessIsAnError :
    (0x0001#16).toNat % 4 ≠ 0 ∧ (0xFFFF#16).toNat % 4 ≠ 0 ∧ keyed.cfg.wf = true ∧
    ([0x34, 0x3F] : List Nat).all (fun n => decide (0x34 ≤ n ∧ n < 0x40)) = true ∧
    ([0x78, 0x7F] : List Nat).all (fun n => decide (0x78 ≤ n ∧ n < 0x80)) = true ∧
    ([0xC8, 0xFFF] : List Nat).all (fun n => decide (0xC8 ≤ n ∧ n < 0x1000)) = true ∧
    ([0x2010, 0x2FFF] : List Nat).all (fun n => decide (0x2000 + keyed.cfg.msgMax ≤ n ∧ n < 0x3000)) = true ∧
    ([0x3010, 0x3FFF] : List Nat).all (fun n => decide (0x3000 + keyed.cfg.msgMax ≤ n ∧ n < 0x4000)) = true ∧
    0x4000 ≤ (0x4000#16).toNat ∧ 0x4000 ≤ (0xFFFF#16).toNat := by decide +kernel

theorem test_witness_ReadOnlyWriteIsAnError :
    keyed.cfg.wf = true ∧
    ([.id, .version, .config, .ctlen, .outlen, .fout, .p 0, .p 17, .s 0 0, .s 3 255, .outWord 0, .outWord 3, .cmd] : List Loc).all
      (fun l => l.wf keyed.cfg) = true := by decide +kernel

theorem test_witness_BusyLockedWriteIsDropped :
    (busy .nop).cfg.wf = true ∧ (busy .nop).busy = true ∧
    ([.cmd, .keylen, .msglen, .xl, .xr, .key 0, .key 13, .inWord 0, .inWord 1023, .status, .irqen] : List Loc).all
      (fun l => l.wf (busy .nop).cfg) = true := by decide +kernel

/-- Busy, and the same state idle. -/
theorem test_witness_BusyGatedReadIsZero :
    (busy .nop).cfg.wf = true ∧ (busy .nop).busy = true ∧ ({ busy .nop with latch := none } : State).busy = false ∧
    ([.outlen, .xl, .xr, .fout, .p 0, .p 17, .s 0 0, .s 3 255, .outWord 0, .outWord 1023, .id, .version, .config, .ctlen, .cmd,
      .status, .irqen, .keylen, .msglen, .key 0, .key 13, .inWord 0, .inWord 1023] : List Loc).all
      (fun l => l.wf (busy .nop).cfg) = true := by decide +kernel

theorem test_witness_RegisterReadsBackWhatWasWritten :
    keyed.busy = false ∧ keyed.cfg.wf = true ∧
    ([.msglen, .xl, .xr, .key 0, .key 13, .inWord 0, .inWord 3] : List Loc).all (fun l => l.wf keyed.cfg) = true := by
  decide +kernel

/-- The first and the last word of the buffers, idle and busy. -/
theorem test_witness_BufferWindowsAreBigEndian :
    keyed.cfg.wf = true ∧ 4 * (0 : Fin 1024).val < keyed.cfg.msgMax ∧ 4 * (3 : Fin 1024).val < keyed.cfg.msgMax ∧
    keyed.busy = false ∧ (busy .nop).cfg.wf = true ∧ 4 * (1023 : Fin 1024).val < (busy .nop).cfg.msgMax ∧
    (busy .nop).busy = true := by decide +kernel

theorem test_witness_HostWriteFrame :
    keyed.busy = false ∧ keyed.cfg.wf = true ∧ Loc.wf keyed.cfg (.inWord 3) = true ∧ Loc.inWord 3 ≠ .cmd ∧ Loc.inWord 3 ≠ .inWord 2 ∧
    (∀ w : Fin 1024, Loc.inWord 3 = .inWord w → 16 < 4 * w.val ∨ 4 * w.val + 4 ≤ 16) ∧
    (∀ w : Fin 1024, Loc.inWord 3 = .inWord w → 11 < 4 * w.val ∨ 4 * w.val + 4 ≤ 11) := by
  refine ⟨by decide +kernel, by decide +kernel, by decide +kernel, by decide, by decide, ?_, ?_⟩ <;>
    (intro w h; injection h with h; subst h; decide)

theorem test_witness_WindowsShowTheCipherOnlyWhileKeyedAndIdle :
    keyed.cfg.wf = true ∧ keyed.status.keyed = true ∧ keyed.busy = false ∧ State.reset.cfg.wf = true ∧
    State.reset.status.keyed = false := by decide +kernel

theorem test_witness_CmdWriteLaunches : (busy .nop).busy = true ∧ keyed.busy = false := by decide +kernel

/-- Its three clauses: a draw that has run out, a host with nothing left to run, and an illegal word. -/
theorem test_witness_StepRunsTheLatchedCommand :
    (keyed.withFetchWord 32 4).latch.map (fun l => (l.cmd, l.wait)) = some (.op .encm, 0) ∧
    (State.launchWith 3 keyed 4#32).latch.map (fun l => (l.cmd, l.wait)) = some (.op .encm, 3) ∧
    (State.launchWith 3 keyed 4#32).host.active = false ∧
    (keyed.withFetchWord 32 8).latch.map Latch.cmd = some .illegal ∧
    (keyed.withFetchWord 32 4).resetSchedule = [] := by decide +kernel

theorem test_witness_FetchedWordRuns :
    Instr.wf .decm = true ∧ decode 5#32 = .op .decm ∧ Instr.wf .nop = true ∧ decode 0#32 = .op .nop := by decide

theorem test_witness_IllegalWordReportsIllegalCommand :
    8 ≤ ((0x00000008#32).extractLsb' 0 8).toNat ∧ (0x00000100#32).extractLsb' 8 24 ≠ 0#24 ∧ keyed.busy = false := by decide +kernel

/-- At both ends of the legal key lengths. -/
theorem test_witness_KschedResult :
    4 ≤ (withKey 4#8).operands.keylen.toNat ∧ (withKey 4#8).operands.keylen.toNat ≤ 56 ∧
    4 ≤ (withKey 56#8).operands.keylen.toNat ∧ (withKey 56#8).operands.keylen.toNat ≤ 56 ∧
    4168 ≤ (withKey 4#8).cfg.constTable.length := by decide +kernel

/-- For ENCB, DECB and FEVAL. -/
theorem test_witness_EncbResult_DecbResult_FevalResult : keyed.operands.keyed = true := by decide +kernel

theorem test_witness_EncbThenDecbRestoresTheBlock :
    let s := { keyed with xl := 0x10#32, xr := 0x20#32 }
    let t := { keyed with xl := 0x20#32, xr := 0x10#32 }
    s.operands.keyed = true ∧ t.operands.keyed = true ∧ t.operands.cipher = s.operands.cipher ∧
    t.operands.xl = (nextState (exec .encb s)).xl ∧ t.operands.xr = (nextState (exec .encb s)).xr ∧
    t.operands.xl = (nextState (exec .decb s)).xl ∧ t.operands.xr = (nextState (exec .decb s)).xr := by
  refine ⟨by decide +kernel, by decide +kernel, rfl, ?_, ?_, ?_, ?_⟩ <;> decide +kernel

/-- The empty message and the longest one, for EncmResult, PaddedLength, DecmResult and their error checks. -/
theorem test_witness_EncmResult_DecmResult_PaddedLength :
    keyed.cfg.wf = true ∧ keyed.operands.keyed = true ∧ (withMessage [] 0#32).operands.msglen.toNat ≤ keyed.cfg.msgMax ∧
    (withMessage [] 16#32).operands.msglen.toNat ≤ keyed.cfg.msgMax ∧ (withMessage [] 16#32).operands.msglen.toNat % 8 = 0 := by
  decide +kernel

theorem test_witness_DecmLengthCheck :
    (nextState (exec .decm (withMessage [] 7#32))).status.errcode = 2#4 ∧
    (nextState (exec .decm (withMessage [] 8#32))).status.errcode = 0#4 := by decide +kernel

/-- For CommandReportsItsFirstError, FailedCommandChangesOnlyStatus and CommandFrame. -/
theorem test_witness_failed_command :
    Instr.wf .encb = true ∧ (keyed.withFetchWord 32 8).turn = .engine .illegal ∧
    (∃ t, exec .encb State.reset = .next t ∧ t.status.errcode ≠ 0#4) ∧ ∃ t, exec .encb keyed = .next t :=
  ⟨rfl, by decide +kernel, ⟨_, rfl, by decide +kernel⟩, ⟨_, rfl⟩⟩

/-- Under P and S all 0 every round only exchanges the halves: for EncBlockByRounds and DecBlockByRounds. -/
theorem test_witness_EncBlockByRounds_DecBlockByRounds :
    let x : Nat → Block := fun _ => { xl := 0#32, xr := 0#32 }
    x 0 = { xl := 0#32, xr := 0#32 } ∧
    (∀ (r : Nat) (h : r < 16), x (r + 1) =
      { xl := (x r).xr ^^^ CipherState.zero.f ((x r).xl ^^^ CipherState.zero.p[r]), xr := (x r).xl ^^^ CipherState.zero.p[r] }) ∧
    (∀ (r : Nat) (h : r < 16), x (r + 1) =
      { xl := (x r).xr ^^^ CipherState.zero.f ((x r).xl ^^^ CipherState.zero.p[17 - r]),
        xr := (x r).xl ^^^ CipherState.zero.p[17 - r] }) := by
  refine ⟨rfl, ?_, ?_⟩ <;> (intro r h; simp [CipherState.zero, CipherState.f, CipherState.sbox])

theorem test_witness_InitFromTableReadsInOrder : 4168 ≤ defaultTable.length := by decide +kernel

theorem test_witness_KeyMixUsesTheCyclicKey : (4 ≤ 4 ∧ 4 ≤ 56) ∧ (4 ≤ 56 ∧ 56 ≤ 56) := by decide

/-- The bootstrap's own working states meet its statement's hypotheses, from any P and S. -/
theorem test_witness_BootstrapByInvocations (c : CipherState) :
    let b : Nat → Boot := fun m => (bootOrder.take m).foldl Boot.step { cipher := c, acc := { xl := 0#32, xr := 0#32 } }
    b 0 = { cipher := c, acc := { xl := 0#32, xr := 0#32 } } ∧
    (∀ i : Nat, i < 9 →
      (b (i + 1)).acc = (b i).cipher.encBlock (b i).acc ∧
      FillsP (b i).cipher (b (i + 1)).cipher i ((b i).cipher.encBlock (b i).acc)) ∧
    (∀ k j : Nat, k < 4 → j < 128 →
      (b (9 + 128 * k + j + 1)).acc = (b (9 + 128 * k + j)).cipher.encBlock (b (9 + 128 * k + j)).acc ∧
      FillsS (b (9 + 128 * k + j)).cipher (b (9 + 128 * k + j + 1)).cipher k j
        ((b (9 + 128 * k + j)).cipher.encBlock (b (9 + 128 * k + j)).acc)) := by
  intro b
  have next : ∀ (m : Nat) (slot : Slot), bootOrder[m]? = some slot → b (m + 1) = (b m).step slot := by
    intro m slot h
    show (bootOrder.take (m + 1)).foldl Boot.step _ = _
    rw [List.take_add_one, List.foldl_append, h]; rfl
  refine ⟨rfl, fun i hi => ?_, fun k j hk hj => ?_⟩
  · rw [next i _ (bootOrder_p i hi)]
    refine ⟨rfl, fun n hn => ?_, rfl⟩
    simp only [Boot.step, CipherState.fill, Vector.getElem_set]
    grind
  · rw [next _ _ (bootOrder_s k j hk hj)]
    refine ⟨rfl, rfl, fun m n hm hn => ?_⟩
    simp only [Boot.step, CipherState.fill, Vector.getElem_set]
    by_cases e : k = m
    · subst e; simp [Vector.getElem_set]; grind
    · simp [e, Ne.symm e]

/-- Two keys of 4 bytes that differ past them, and different CipherStates. -/
theorem test_witness_KschedIgnoresTheOldCipher :
    let s := { withKey 4#8 with key := (Vector.replicate 14 0#32).set 0 0x01020304#32 }
    let t := { keyedWith fRow with keylen := 4#8, key := (Vector.replicate 14 0xFFFFFFFF#32).set 0 0x01020304#32 }
    4 ≤ s.operands.keylen.toNat ∧ s.operands.keylen.toNat ≤ 56 ∧ t.operands.keylen = s.operands.keylen ∧
    4168 ≤ s.cfg.constTable.length ∧ 4168 ≤ t.cfg.constTable.length ∧
    (∀ n, n < s.operands.keylen.toNat → keyByte t.operands.key n = keyByte s.operands.key n) ∧
    t.cfg.constTable.take 4168 = s.cfg.constTable.take 4168 := by
  refine ⟨by decide +kernel, by decide +kernel, by decide +kernel, by decide +kernel, by decide +kernel, by decide +kernel, rfl⟩

/-- Section 3.1: 01 02 03 04 and 01 02 03 04 01 02 03 04; the zero key of 4 bytes and of 56. -/
theorem test_witness_KeysWithOneStreamGiveOneCipher :
    (∀ n, n < 72 →
      keyByte ((Vector.replicate 14 0#32).set 0 0x01020304#32) (n % 4) =
        keyByte ((Vector.replicate 14 0#32).set 0 0x01020304#32 |>.set 1 0x01020304#32) (n % 8)) ∧
    (∀ n, n < 4 → keyByte (Vector.replicate 14 0#32) n = 0#8) ∧ (∀ n, n < 56 → keyByte (Vector.replicate 14 0#32) n = 0#8) := by
  decide +kernel

/-- Two states that agree on the message and differ in the byte of IN after it. -/
theorem test_witness_EncmReadsOnlyTheMessage :
    let s := withMessage [0x41#8, 1#8] 1#32
    let t := withMessage [0x41#8, 2#8] 1#32
    t.cfg.msgMax = s.cfg.msgMax ∧ s.operands.keyed = true ∧ t.operands.keyed = true ∧ t.operands.cipher = s.operands.cipher ∧
    s.operands.msglen.toNat ≤ s.cfg.msgMax ∧ t.operands.msglen = s.operands.msglen ∧
    (∀ n, n < s.operands.msglen.toNat → inputByte t n = inputByte s n) := by
  refine ⟨by decide +kernel, by decide +kernel, by decide +kernel, rfl, by decide +kernel, rfl, by decide +kernel⟩

/-- "AB" 00, and the state that holds its ciphertext in IN. -/
theorem test_witness_MessageRoundTrip :
    let s := withMessage [0x41#8, 0x42#8, 0#8] 3#32
    let u := nextState (exec .encm s)
    let t := { s with inBuf := u.outBuf, msglen := u.outlen }
    s.cfg.wf = true ∧ s.operands.keyed = true ∧ s.operands.msglen.toNat ≤ s.cfg.msgMax ∧ t.cfg = s.cfg ∧
    t.operands.keyed = true ∧ t.operands.cipher = s.operands.cipher ∧ t.operands.msglen = u.outlen ∧
    (∀ n, n < u.outlen.toNat → inputByte t n = u.outByte n) := by
  refine ⟨by decide +kernel, by decide +kernel, by decide +kernel, rfl, by decide +kernel, rfl, rfl, by decide +kernel⟩

/-- For StepKeepsMemoryCanonical, StepKeepsStatusLegal and StepKeepsOutTailZero: a keyed state with a
message, at the step that completes its ENCM. -/
theorem test_witness_StepKeeps :
    let s := (withMessage [0x41#8, 0x42#8] 2#32).withFetchWord 32 4
    MemoryOk s ∧ StatusOk s ∧ LatchOk s ∧ OutOk s ∧ ∃ t, step s = .next t := by
  refine ⟨⟨by decide +kernel, by decide +kernel, by decide +kernel, by decide +kernel, by decide +kernel⟩,
    ⟨by decide +kernel, by decide +kernel, by decide +kernel⟩, ?_, ⟨by decide +kernel, by decide +kernel, .inl ⟨rfl, rfl⟩⟩, ?_⟩
  · intro l h
    change some _ = some l at h
    injection h with h; subst h; rfl
  · exact ⟨_, rfl⟩

/-- A command in flight at a host step; and at the step that completes it, which is not the host's. -/
theorem test_witness_StepKeepsLatchCoherent :
    let u := nextState (step (busy .ksched))
    LatchOk (busy .ksched) ∧ (busy .ksched).turn = .host ∧ (busy .ksched).latch.isSome = true ∧
    (∃ t, step (busy .ksched) = .next t) ∧
    u.turn = .host ∧ u.latch.isSome = true ∧ u.host.current = some (.wr 0x0028#16 0x11111111#32) ∧
    (keyed.withFetchWord 32 4).turn ≠ .host ∧ ∃ t, step (keyed.withFetchWord 32 4) = .next t := by
  refine ⟨?_, by decide +kernel, by decide +kernel, ⟨_, rfl⟩, by decide +kernel, by decide +kernel, by decide +kernel,
    by decide +kernel, ⟨_, rfl⟩⟩
  intro l h
  change some _ = some l at h
  injection h with h; subst h; rfl

/-- For StepKeepsCipherDerived: a state that is keyed with a derived CipherState. -/
theorem test_witness_StepKeepsCipherDerived :
    let s := (keyedWith (deriveCipher defaultTable (Vector.replicate 14 0#32) 8)).withFetchWord 32 0
    s.status.keyed = true ∧ CipherOk s ∧ ∃ t, step s = .next t := by
  have ok : ∀ c, c = deriveCipher defaultTable (Vector.replicate 14 0#32) 8 → CipherOk ((keyedWith c).withFetchWord 32 0) :=
    fun c h _ => ⟨by show 4168 ≤ defaultTable.length; decide +kernel, _, 8, by omega, by omega, h⟩
  exact ⟨rfl, ok _ rfl, _, rfl⟩

theorem test_witness_OnlyKschedClrkeyAndResetChangeTheCipher :
    let s := keyed.withFetchWord 32 7
    ∃ t, step s = .next t ∧ t.status.keyed ≠ s.status.keyed := ⟨_, rfl, by decide +kernel⟩

/-- Its two outcomes: a STATUS write, and a reset. -/
theorem test_witness_OverrunIsSticky :
    let s : State := { State.reset with
      status := { State.reset.status with ovr := true }
      host := { State.reset.host with program := [.wr 0x0014#16 0x8#32] } }
    s.status.ovr = true ∧ (∃ t, step s = .next t ∧ t.status.ovr = false) ∧
    (∃ t, step { s with resetSchedule := [0] } = .next t ∧ t.status.ovr = false) :=
  ⟨rfl, ⟨_, rfl, by decide +kernel⟩, ⟨_, rfl, by decide +kernel⟩⟩

/-- Busy and idle. -/
theorem test_witness_ReadHasNoSideEffect :
    (busy .nop).turn = .host ∧ (busy .nop).resetSchedule = [] ∧ (busy .nop).host.current = some (.rd 0x0014#16) ∧
    (busy .nop).latch.isSome = true ∧
    (let s : State := { busy .nop with latch := none }
     s.turn = .host ∧ s.resetSchedule = [] ∧ s.host.current = some (.rd 0x0014#16) ∧ s.latch.isNone = true) := by decide +kernel

/-- The host at this statement, with a label at 1 and `t` = 0. -/
def hostAt (st : Stmt) : State :=
  { State.reset with host := { State.reset.host with program := [st, .label 4, .label 4, .halt] } }

/-- Each kind of statement: the branches taken, not taken and with no label, while idle; and a write while busy. -/
theorem test_witness_HostStatementsFollowTheirRules :
    ([.wr 0x0028#16 1#32, .label 9, .bit1 3 4, .bit0 3 4, .bit0 3 7, .expect 5#32, .halt] : List Stmt).all
      (fun st => decide ((hostAt st).turn = .host ∧ (hostAt st).resetSchedule = [] ∧ (hostAt st).host.current = some st ∧
        (hostAt st).busy = false ∧ (hostAt st).host.t.getLsbD 3 = false ∧ (hostAt st).host.program[1]? = some (.label 4) ∧
        (hostAt st).host.program[0]? ≠ some (.label 4))) = true ∧
    (∀ n : Nat, (hostAt (.bit0 3 7)).host.program[n]? ≠ some (.label 7)) ∧
    (nextState (step (busy .nop))).turn = .host ∧
    (nextState (step (busy .nop))).host.current = some (.wr 0x0028#16 0x11111111#32) := by
  refine ⟨by decide +kernel, ?_, by decide +kernel, by decide +kernel⟩
  intro n
  match n with
  | 0 | 1 | 2 | 3 => decide
  | n + 4 => simp [hostAt]

/-- A command in flight, with a host that reads, overruns and clears OVR meanwhile; also for RunWithDefinedLabelsIsSafe. -/
theorem test_witness_CommandCompletesWithItsResultWhateverTheLatency :
    (busy .ksched).latch.map (fun l => (l.cmd, l.wait)) = some (.op .ksched, 3) ∧ (busy .ksched).resetSchedule = [] ∧
    (busy .ksched).labelsOk := ⟨by decide +kernel, rfl, by show labelsDefined _ = true; decide +kernel⟩

/-- Two unkeyed states with different P and S, one command in flight in each. -/
theorem test_witness_UnkeyedCipherIsUnobservable :
    let s := State.reset.withFetchWord 32 1
    let t := ({ State.reset with cipher := fWrap } : State).withFetchWord 32 1
    s.status.keyed = false ∧ (∀ l, s.latch = some l → l.snapshot.keyed = false) ∧ withoutCipher s = withoutCipher t := by
  refine ⟨rfl, ?_, rfl⟩
  intro l h
  change some _ = some l at h
  injection h with h; subst h; rfl

end Sys2Proof.Tests
end

section
/-! Memory stays canonical and inside the buffers (10_state.md R8, R55, R56; log entry 16). -/

namespace Sys2Proof.Machine

open Sys2Proof.Spec

/-- The invariant speaks of the configuration and the two buffers alone. -/
theorem memoryOk_of_eq {s t : State} (hcfg : t.cfg = s.cfg) (hin : t.inBuf = s.inBuf) (hout : t.outBuf = s.outBuf)
    (hs : MemoryOk s) : MemoryOk t := by
  simpa only [MemoryOk, hcfg, hin, hout] using hs

/-! ### Writes of IN -/

/-- A register is no word of IN. -/
theorem registerAt_ne_inWord (n : Nat) (w : Fin 1024) : registerAt n ≠ .loc (.inWord w) := by
  unfold registerAt
  split <;> simp

/-- R8: a legal `MSG_MAX` is whole blocks, at least one. -/
theorem config_wf_iff {c : Config} : c.wf = true ↔ c.msgMax % 8 = 0 ∧ 8 ≤ c.msgMax ∧ c.msgMax ≤ 4096 := by
  simp [Config.wf, and_assoc]

/-- A word of IN that the map names lies whole below `MSG_MAX` (R37, R88). -/
theorem locate_inWord_inside {m : Nat} (hm : m % 8 = 0) {off : Offset} {w : Fin 1024}
    (h : locate m off = .loc (.inWord w)) : 4 * w.val + 4 ≤ m := by
  unfold locate locateAt at h
  split_ifs at h with haligned hreg
  case pos => exact absurd h (registerAt_ne_inWord _ _)
  all_goals simp only [Located.loc.injEq, Loc.inWord.injEq, reduceCtorEq] at h
  subst h
  simp only [Fin.val_ofNat]
  omega

/-- An accepted write keeps memory canonical: only a write of IN touches it, and that write stays inside the buffer (R84). -/
theorem memoryOk_writeLoc {s : State} (hs : MemoryOk s) (v : Word) {off : Offset} {l : Loc}
    (hl : locate s.cfg.msgMax off = .loc l) : MemoryOk (s.writeLoc v l) := by
  cases l with
  | inWord w =>
    obtain ⟨hcfg, hin, hout, hinside, houtside⟩ := hs
    refine ⟨hcfg, Memory.wf_writeAll hin _ _, hout, fun c hc => ?_, houtside⟩
    have hend := locate_inWord_inside (config_wf_iff.1 hcfg).1 hl
    rcases Memory.mem_writeAll hc with ⟨_, hbound⟩ | hold
    · have hfour : (bytes32 v).length = 4 := rfl
      simp only [hfour] at hbound
      exact Nat.lt_of_lt_of_le hbound hend
    · exact hinside c hold
  | id | version | config | ctlen | cmd | status | irqen | keylen | msglen | outlen | xl | xr | fout | key _ | p _ | s _ _
  | outWord _ => exact hs

/-! ### Results in OUT -/

/-- A result that fits in the buffer keeps memory canonical (R204). -/
theorem memoryOk_writeResult {s : State} (hs : MemoryOk s) {r : List Byte} (hr : r.length ≤ s.cfg.msgMax) (n : Nat) :
    MemoryOk (s.writeResult r n) := by
  obtain ⟨hcfg, hin, _, hinside, _⟩ := hs
  refine ⟨hcfg, hin, Memory.wf_ofBytes _ _, hinside, fun c hc => ?_⟩
  have hbound := (Memory.mem_ofBytes hc).2
  simp only [List.length_append, List.length_replicate] at hbound
  simp only [State.writeResult_cfg]
  omega

/-- ECB iteration on whole blocks keeps the length. -/
theorem mapBlocks_length_of_whole (f : Block → Block) {r : List Byte} (h : r.length % 8 = 0) :
    (mapBlocks f r).length = r.length := by
  obtain ⟨k, hk⟩ := Nat.dvd_of_mod_eq_zero h
  rw [mapBlocks_length f k r hk, hk]

/-- A command keeps memory canonical: it writes no buffer, or OUT with a result no longer than the padded message, which fits. -/
theorem memoryOk_exec {i : Instr} {s t : State} (hs : MemoryOk s) (h : exec i s = .next t) : MemoryOk t := by
  rcases exec_cases i s with ⟨_, e⟩ | ⟨_, e⟩ | ⟨_, _, _, _, e⟩ | ⟨_, e⟩ | ⟨_, _, e⟩ | ⟨_, _, _, e⟩ |
      ⟨r, n, hrule, _, hfits, e⟩ <;> rw [h] at e <;> cases e
  -- ENCM and DECM, the only commands that write a buffer
  pick_goal 7
  · have hlen : r.length ≤ s.cfg.msgMax := by
      rcases hrule with ⟨_, rfl, _⟩ | ⟨_, hwhole, rfl, _⟩
      · have ⟨hcfg, _⟩ := hs
        obtain ⟨hblocks, hone, _⟩ := config_wf_iff.1 hcfg
        rw [mapBlocks_length_of_whole _ (by simpa using padLen_mod _)]
        simpa using padLen_le _ _ hfits hblocks hone
      · rw [mapBlocks_length_of_whole _ (by simpa using hwhole)]
        simpa using hfits
    exact memoryOk_of_eq rfl rfl rfl (memoryOk_writeResult hs hlen n)
  all_goals exact memoryOk_of_eq (by simp) (by simp) (by simp) hs

/-- Settles O48, by each of the operations a step can use. -/
theorem stepKeepsMemoryCanonical : Obligations.StepKeepsMemoryCanonical := by
  intro s t hs hstep
  refine step_keeps MemoryOk (fun s hs => ?_) (fun _ hs => hs) (fun _ hs => hs) (fun _ _ hs => hs) (fun _ hs => hs)
    (fun _ _ _ hs h => memoryOk_exec hs h) (fun _ hs => hs) (fun _ v _ _ hl _ _ hs => memoryOk_writeLoc hs v hl) s t hs hstep
  obtain ⟨hcfg, _⟩ := hs
  exact ⟨hcfg, List.Pairwise.nil, List.Pairwise.nil, by simp [State.reset], by simp [State.reset]⟩

end Sys2Proof.Machine
end

section
/-! A command in flight (43_control.md R232 to R236): what the host can make of the state meanwhile, that it passes through the
completion unread, and that the completion comes within the draw. -/

namespace Sys2Proof.Machine

/-! ### The labels of the host's program (log entry 11) -/

/-- A program that defines its labels has a position for each label that one of its statements may continue at. -/
theorem labelPosition_ne_none {prog : List Stmt} {st : Stmt} {name : Nat} (hl : labelsDefined prog = true)
    (hst : st ∈ prog) (ht : st.target = some name) : labelPosition prog name ≠ none := by
  have hdef : name ∈ prog.filterMap Stmt.defines := by
    simpa using List.all_eq_true.1 hl name (List.mem_filterMap.2 ⟨st, hst, ht⟩)
  obtain ⟨st', hmem, hname⟩ := List.mem_filterMap.1 hdef
  have hlabel : st' = .label name := by
    cases st' <;> simp_all [Stmt.defines]
  subst hlabel
  intro hnone
  simpa using List.findIdx?_eq_none_iff.1 hnone _ hmem

/-! ### What a host step can do while BUSY = 1 -/

/-- What the host can make of a busy state in one step: the draw counts the step, and of the block's own state only the flags of
STATUS and IRQEN are open to the host (R91). KEYED is not: it stays the state's own. -/
def State.hostMoved (s : State) (st : Status) (q : IrqEnables) (h : HostAgent) : State :=
  { s.spend with status := { st with keyed := s.status.keyed }, irqen := q, host := h }

@[simp] theorem State.hostMoved_cfg (s : State) (st : Status) (q : IrqEnables) (h : HostAgent) :
    (s.hostMoved st q h).cfg = s.cfg := rfl
@[simp] theorem State.hostMoved_host (s : State) (st : Status) (q : IrqEnables) (h : HostAgent) :
    (s.hostMoved st q h).host = h := rfl
@[simp] theorem State.hostMoved_resetSchedule (s : State) (st : Status) (q : IrqEnables) (h : HostAgent) :
    (s.hostMoved st q h).resetSchedule = s.resetSchedule := rfl
@[simp] theorem State.hostMoved_latch (s : State) (st : Status) (q : IrqEnables) (h : HostAgent) :
    (s.hostMoved st q h).latch = s.latch.map fun l => { l with wait := l.wait - 1 } := rfl

/-- A bus write while BUSY = 1 changes nothing but flags of STATUS and IRQEN (R91). -/
theorem busWrite_of_busy {s : State} (hb : s.busy = true) (off : Offset) (v : Word) :
    ∃ (st : Status) (q : IrqEnables),
      (s.busWrite off v).2 = { s with status := { st with keyed := s.status.keyed }, irqen := q } := by
  rcases busWrite_cases s off v with e | ⟨_, _, _, _, e⟩ | ⟨l, _, hro, hlock, e⟩ <;> rw [e]
  · exact ⟨s.status, s.irqen, rfl⟩
  · exact ⟨{ s.status with ovr := true }, s.irqen, rfl⟩
  · have hunlocked := hlock hb
    cases l with
    | status => exact ⟨s.status.writeOneToClear v, s.irqen, rfl⟩
    | irqen => exact ⟨s.status, IrqEnables.ofWord v, rfl⟩
    | cmd | keylen | msglen | xl | xr | key _ | inWord _ => cases hunlocked
    | id | version | config | ctlen | outlen | fout | p _ | s _ _ | outWord _ => cases hro

/-- While a command is in flight, a host with a statement to run and with its labels defined moves on, and its program stays. -/
theorem hostStep_of_busy {s : State} (hb : s.busy = true) (hactive : s.host.active = true) (hlabels : s.labelsOk) :
    ∃ (st : Status) (q : IrqEnables) (h : HostAgent),
      h.program = s.host.program ∧ hostStep s = .next (s.hostMoved st q h) := by
  rcases hostStep_cases s with ⟨hidle, _⟩ | ⟨h, hprog, e⟩ | ⟨off, v, h, _, hprog, e⟩ | ⟨name, hnone, ⟨st, hcur, htgt⟩, _⟩
  · rw [hactive] at hidle; cases hidle
  · exact ⟨s.status, s.irqen, h, hprog, e⟩
  · obtain ⟨st, q, hw⟩ := busWrite_of_busy (s := s.spend) (by simpa using hb) off v
    exact ⟨st, q, h, hprog, by rw [e, hw]; rfl⟩
  · exact absurd hnone (labelPosition_ne_none hlabels (List.mem_of_getElem? hcur) htgt)

/-! ### The host's moves pass through the completion -/

/-- A busy host's step leaves the inputs of the command in flight (R232). -/
theorem hostMoved_operands {s : State} (hb : s.busy = true) (st : Status) (q : IrqEnables) (h : HostAgent) :
    (s.hostMoved st q h).operands = s.operands := by
  obtain ⟨l, hl⟩ := Option.isSome_iff_exists.1 hb
  simp [State.operands, hl]

theorem hostMoved_message {s : State} (hb : s.busy = true) (st : Status) (q : IrqEnables) (h : HostAgent) :
    (s.hostMoved st q h).message = s.message := by
  unfold State.message
  rw [hostMoved_operands hb]
  rfl

/-- What a completed state keeps of the host's moves before the completion: OVR, IRQEN and the host agent, which no command
reads or writes (R232, R233). -/
def State.withHostMoves (r : State) (ovr : Bool) (q : IrqEnables) (h : HostAgent) : State :=
  { r with status := { r.status with ovr := ovr }, irqen := q, host := h }

/-- A command completes after a host step as it would have before it, but for OVR, IRQEN and the host agent (R232). -/
theorem exec_hostMoved {s r : State} (hb : s.busy = true) (i : Instr) (st : Status) (q : IrqEnables) (h : HostAgent)
    (hr : exec i s = .next r) : exec i (s.hostMoved st q h) = .next (r.withHostMoves st.ovr q h) := by
  have ho := hostMoved_operands hb st q h
  have hm := hostMoved_message hb st q h
  cases i <;>
    simp only [exec, execNop, execKsched, execEncb, execDecb, execEncm, execDecm, execFeval, execClrkey, ho, hm,
      State.hostMoved_cfg] at hr ⊢
  case nop | clrkey => cases hr; rfl
  case ksched =>
    -- named, so that `rfl` does not evaluate the key schedule
    generalize deriveCipher _ _ _ = derived at hr ⊢
    split_ifs at hr ⊢ <;> cases hr <;> rfl
  case encb | decb | encm | decm | feval => split_ifs at hr ⊢ <;> cases hr <;> rfl

/-! ### Completion -/

/-- The block has completed its command as `r` has: idle, DONE, and every result and operand register of `r`. -/
def CompletedAs (t r : State) : Prop :=
  t.latch = none ∧ t.status.done = true ∧ t.status.err = r.status.err ∧ t.status.errcode = r.status.errcode ∧
  t.status.keyed = r.status.keyed ∧ t.cipher = r.cipher ∧ t.xl = r.xl ∧ t.xr = r.xr ∧ t.fout = r.fout ∧
  t.outBuf = r.outBuf ∧ t.outlen = r.outlen ∧ t.key = r.key ∧ t.keylen = r.keylen ∧ t.msglen = r.msglen ∧
  t.inBuf = r.inBuf ∧ t.cfg = r.cfg

/-- Every command's completion is one (R233). -/
theorem completedAs_self_of_exec {i : Instr} {s r : State} (h : exec i s = .next r) : CompletedAs r r := by
  obtain ⟨u, code, e⟩ := exec_next i s
  rw [h] at e
  cases e
  simp [CompletedAs]

/-- The host's moves are no part of a command's results. -/
theorem completedAs_withHostMoves (t r : State) (ovr : Bool) (q : IrqEnables) (h : HostAgent) :
    CompletedAs t (r.withHostMoves ovr q h) ↔ CompletedAs t r := Iff.rfl

/-- With no reset event to come, either the command in flight completes in this step, or the host moves and one step of the draw
passes (R234, R235). -/
theorem step_of_latched {s : State} {l : Latch} {i : Instr} (hl : s.latch = some l) (hcmd : l.cmd = .op i)
    (hsched : s.resetSchedule = []) (hlabels : s.labelsOk) :
    step s = exec i s ∨
    (l.wait ≠ 0 ∧ ∃ (st : Status) (q : IrqEnables) (h : HostAgent),
      h.program = s.host.program ∧ step s = .next (s.hostMoved st q h)) := by
  have htick : s.tick = s := tick_of_nil s hsched
  rcases turn_cases s with ⟨_, later, hreset⟩ | ⟨_, ⟨m, hm, hturn, _⟩ | ⟨hturn, hwait⟩⟩
  · rw [hsched] at hreset; cases hreset
  · left
    rw [hl] at hm; cases hm
    simp [step, hturn, hcmd, htick]
  · right
    rcases hwait with hnone | ⟨m, hm, hpos, hactive⟩
    · rw [hl] at hnone; cases hnone
    · rw [hl] at hm; cases hm
      obtain ⟨st, q, h, hprog, e⟩ := hostStep_of_busy (by simp [State.busy, hl]) hactive hlabels
      exact ⟨hpos, st, q, h, hprog, by simp [step, hturn, htick, e]⟩

/-- The run to the completion, by induction on the draw: each host step leaves a smaller draw and, by `exec_hostMoved`, the same
results. -/
theorem run_completes {i : Instr} (n : Nat) {s r : State} {l : Latch} (hn : l.wait = n) (hl : s.latch = some l)
    (hcmd : l.cmd = .op i) (hsched : s.resetSchedule = []) (hlabels : s.labelsOk) (hr : exec i s = .next r) :
    ∃ (k : Nat) (t : State), k ≤ n + 1 ∧ Sys2Proof.core.run k s = .next t ∧ CompletedAs t r := by
  induction n generalizing s r l with
  | zero =>
    rcases step_of_latched hl hcmd hsched hlabels with hstep | ⟨hpos, _⟩
    · exact ⟨1, r, le_rfl, run_succ 0 (hstep.trans hr), completedAs_self_of_exec hr⟩
    · exact absurd hn hpos
  | succ n ih =>
    rcases step_of_latched hl hcmd hsched hlabels with hstep | ⟨_, st, q, h, hprog, hstep⟩
    · exact ⟨1, r, by omega, run_succ 0 (hstep.trans hr), completedAs_self_of_exec hr⟩
    · have hlabels' : (s.hostMoved st q h).labelsOk := by simpa [State.labelsOk, hprog] using hlabels
      have hr' := exec_hostMoved (by simp [State.busy, hl]) i st q h hr
      obtain ⟨k, t, hk, hrun, hdone⟩ := ih (s := s.hostMoved st q h) (l := { l with wait := l.wait - 1 })
        (by simp [hn]) (by simp [hl]) hcmd hsched hlabels' hr'
      exact ⟨k + 1, t, by omega, (run_succ k hstep).trans hrun, (completedAs_withHostMoves ..).1 hdone⟩

/-- Settles O58: the command's rule answers some `r` now, and the run completes with the results of `r`. -/
theorem commandCompletesWithItsResultWhateverTheLatency :
    Obligations.CommandCompletesWithItsResultWhateverTheLatency := by
  intro s l i hl hcmd hsched hlabels
  obtain ⟨u, code, hr⟩ := exec_next i s
  obtain ⟨k, t, hk, hrun, hdone⟩ := run_completes l.wait rfl hl hcmd hsched hlabels hr
  exact ⟨k, t, _, hk, hrun, hr, hdone⟩

end Sys2Proof.Machine
end

section
/-! The register map read both ways (10_state.md R37, R88; 30_encoding.md R120), and with it what the bus does at a location's own
offset (20_memory.md R82, R83, R91, R92). -/

namespace Sys2Proof.Machine

/-! ### From a location to its offset and back -/

/-- An element number in range is what `locateAt` forms it to. -/
theorem fin_ofNat_eq {m n : Nat} [NeZero m] {i : Fin m} (h : n = i.val) : Fin.ofNat m n = i := by
  subst h; simp

/-- R37, R120: a location that the block has is found at its own offset. -/
theorem locate_offset {c : Config} {l : Loc} (hl : l.wf c = true) : locate c.msgMax l.offset = .loc l := by
  cases l with
  | id | version | config | ctlen | cmd | status | irqen | keylen | msglen | outlen | xl | xr | fout => rfl
  | key w | p w =>
    simp (disch := omega) only [Loc.offset, locate, locateAt, BitVec.toNat_ofNat, Nat.mod_eq_of_lt, if_pos, if_neg]
    rw [fin_ofNat_eq (i := w) (by omega)]
  | s k j =>
    simp (disch := omega) only [Loc.offset, locate, locateAt, BitVec.toNat_ofNat, Nat.mod_eq_of_lt, if_pos, if_neg]
    rw [fin_ofNat_eq (i := k) (by omega), fin_ofNat_eq (i := j) (by omega)]
  | inWord w | outWord w =>
    have hw : 4 * w.val < c.msgMax := of_decide_eq_true hl
    simp (disch := omega) only [Loc.offset, locate, locateAt, BitVec.toNat_ofNat, Nat.mod_eq_of_lt, if_pos, if_neg]
    rw [fin_ofNat_eq (i := w) (by omega)]

/-- A register found below offset 0x40 is one whose offset is four times its word number. -/
theorem offset_of_registerAt {n : Nat} {l : Loc} (h : registerAt n = .loc l) : l.offset.toNat = 4 * n := by
  unfold registerAt at h
  split at h <;> cases h <;> rfl

theorem wf_of_registerAt {n : Nat} {l : Loc} (h : registerAt n = .loc l) (c : Config) : l.wf c = true := by
  unfold registerAt at h
  split at h <;> cases h <;> rfl

/-- R37, R120: whatever is found at an offset is a location with that offset. -/
theorem offset_of_locate {m : Nat} {off : Offset} {l : Loc} (h : locate m off = .loc l) : l.offset = off := by
  unfold locate locateAt at h
  split_ifs at h
  case pos => exact BitVec.eq_of_toNat_eq (by rw [offset_of_registerAt h]; omega)
  all_goals
    cases h
    apply BitVec.eq_of_toNat_eq
    simp only [Loc.offset, Fin.val_ofNat, BitVec.toNat_ofNat]
    omega

/-- R37, R88: whatever is found at an offset is a location that the block has. -/
theorem wf_of_locate {c : Config} {off : Offset} {l : Loc} (h : locate c.msgMax off = .loc l) : l.wf c = true := by
  unfold locate locateAt at h
  split_ifs at h
  case pos => exact wf_of_registerAt h c
  all_goals
    cases h
    simp only [Loc.wf, Fin.val_ofNat, decide_eq_true_eq]
  -- the two buffers, whose words exist only below `MSG_MAX`
  all_goals omega

/-- Settles O6, by the map read each way. -/
theorem registerMapRoundTrip : Obligations.RegisterMapRoundTrip :=
  fun _ _ => ⟨fun _ hl => locate_offset hl, fun _ _ h => ⟨offset_of_locate h, wf_of_locate h⟩⟩

/-! ### The bus at a location's own offset -/

/-- R82, R92: a read of a location that the block has. -/
theorem busRead_offset {s : State} {l : Loc} (hl : l.wf s.cfg = true) :
    s.busRead l.offset = (.okay, if s.busy && l.busyGated then 0#32 else s.readLoc l) := by
  simp only [State.busRead, locate_offset hl]

/-- R83, R89, R91: a write to a location that the block has. -/
theorem busWrite_offset {s : State} {l : Loc} (hl : l.wf s.cfg = true) (v : Word) :
    s.busWrite l.offset v =
      if l.readOnly then (.error, s) else if s.busy && l.busyLocked then (.okay, s.dropWrite) else (.okay, s.writeLoc v l) := by
  simp only [State.busWrite, locate_offset hl]

/-- R92: what a read of a busy-gated location answers. -/
theorem busRead_of_gated {s : State} {l : Loc} (hl : l.wf s.cfg = true) (hg : l.busyGated = true) :
    s.busRead l.offset = (.okay, if s.busy then 0#32 else s.readLoc l) := by
  simp [busRead_offset hl, hg]

/-- R92: busy or idle, a location that is not gated reads its own value. -/
theorem busRead_of_ungated {s : State} {l : Loc} (hl : l.wf s.cfg = true) (hg : l.busyGated = false) :
    s.busRead l.offset = (.okay, s.readLoc l) := by
  simp [busRead_offset hl, hg]

/-- While idle, no location is gated (R92). -/
theorem busRead_of_idle {s : State} (hb : s.busy = false) {l : Loc} (hl : l.wf s.cfg = true) :
    s.busRead l.offset = (.okay, s.readLoc l) := by
  simp [busRead_offset hl, hb]

/-- While idle, no write to a writable location is dropped (R91). -/
theorem busWrite_of_idle {s : State} (hb : s.busy = false) {l : Loc} (hl : l.wf s.cfg = true) (hw : l.readOnly = false)
    (v : Word) : s.busWrite l.offset v = (.okay, s.writeLoc v l) := by
  simp [busWrite_offset hl, hb, hw]

end Sys2Proof.Machine
end

section
/-! The registers and the windows as the host sees them on the bus (10_state.md R38, R43, R44, R47 to R49, R51, R53 to R56). -/

namespace Sys2Proof.Machine

/-! ### STATUS (R43) -/

/-- The bits of the STATUS word. -/
theorem Status.word_getLsbD (st : Status) (busy : Bool) (n : Nat) :
    (st.word busy).getLsbD n =
      if n = 0 then busy else if n = 1 then st.done else if n = 2 then st.err
      else if n = 3 then st.ovr else if n = 4 then st.keyed
      else if 8 ≤ n ∧ n ≤ 11 then st.errcode.getLsbD (n - 8) else false := by
  have hbits : (st.word busy).getLsbD n = BitVec.getLsbD (w := 20 + 4 + 3 + 1 + 1 + 1 + 1 + 1)
      (0#20 ++ st.errcode ++ 0#3 ++ BitVec.ofBool st.keyed ++ BitVec.ofBool st.ovr ++ BitVec.ofBool st.err
        ++ BitVec.ofBool st.done ++ BitVec.ofBool busy) n := rfl
  rw [hbits]
  simp only [BitVec.getLsbD_append, BitVec.getLsbD_ofBool, BitVec.getLsbD_zero]
  by_cases hn : n < 12
  · interval_cases n <;> simp
  · simp (disch := omega) only [if_neg]

theorem busWrite_status (s : State) (v : Word) :
    s.busWrite (Loc.offset .status) v = (.okay, { s with status := s.status.writeOneToClear v }) := by
  simp [busWrite_offset (s := s) (l := .status) rfl, Loc.readOnly, Loc.busyLocked, State.writeLoc]

/-- Settles O12, from the bits of the word and the fields of the write-one-to-clear update. -/
theorem statusReadsItsFieldsAndClearsNamedFlags : Obligations.StatusReadsItsFieldsAndClearsNamedFlags := by
  intro s
  refine ⟨fun n => ⟨busRead_of_ungated (l := .status) rfl rfl, Status.word_getLsbD s.status s.busy n⟩,
    fun v => ⟨_, busWrite_status s v, ?_, ?_, rfl, ?_, rfl, rfl⟩⟩
  · simp only [Status.w1c_done]; cases v.getLsbD 1 <;> simp
  · simp only [Status.w1c_err]; cases v.getLsbD 2 <;> simp
  · simp only [Status.w1c_ovr]; cases v.getLsbD 3 <;> simp

/-! ### IRQEN and KEYLEN (R44, R48) -/

/-- The bits of the IRQEN word. -/
theorem IrqEnables.word_getLsbD (e : IrqEnables) (n : Nat) :
    e.word.getLsbD n = if n = 0 then e.doneie else if n = 1 then e.errie else if n = 2 then e.ovrie else false := by
  have hbits : e.word.getLsbD n = BitVec.getLsbD (w := 29 + 1 + 1 + 1)
      (0#29 ++ BitVec.ofBool e.ovrie ++ BitVec.ofBool e.errie ++ BitVec.ofBool e.doneie) n := rfl
  rw [hbits]
  simp only [BitVec.getLsbD_append, BitVec.getLsbD_ofBool, BitVec.getLsbD_zero]
  by_cases hn : n < 3
  · interval_cases n <;> simp
  · simp (disch := omega) only [if_neg]

/-- IRQEN keeps the low three bits of what is written (R38, R44). -/
theorem IrqEnables.word_ofWord (v : Word) : (IrqEnables.ofWord v).word = BitVec.ofNat 32 (v.toNat % 8) := by
  apply BitVec.eq_of_getLsbD_eq
  intro i hi
  rw [IrqEnables.word_getLsbD, BitVec.getLsbD_ofNat, show 8 = 2 ^ 3 from rfl, Nat.testBit_mod_two_pow]
  by_cases hlow : i < 3
  · interval_cases i <;> simp [IrqEnables.ofWord, BitVec.getLsbD]
  · simp (disch := omega) only [if_neg]
    simp [hlow]

/-- KEYLEN keeps the low eight bits of what is written (R38, R48). -/
theorem keylen_word (v : Word) : (v.setWidth 8).setWidth 32 = BitVec.ofNat 32 (v.toNat % 256) := by
  apply BitVec.eq_of_toNat_eq
  simp

/-! ### The windows of IN and OUT (R55, R56, R84) -/

theorem bytes32_getElem (v : Word) {t : Nat} (ht : t < 4) : (bytes32 v)[t] = byteOf v t := by
  match t, ht with
  | 0, _ | 1, _ | 2, _ | 3, _ => rfl

/-- The bytes of a word of IN, the first the most significant. -/
theorem byteOf_readLoc_inWord (s : State) (w : Fin 1024) {t : Nat} (ht : t < 4) :
    byteOf (s.readLoc (.inWord w)) t = s.inByte (4 * w + t) := by
  interval_cases t <;> simp [State.readLoc]

/-- The bytes of a word of OUT, the first the most significant. -/
theorem byteOf_readLoc_outWord (s : State) (w : Fin 1024) {t : Nat} (ht : t < 4) :
    byteOf (s.readLoc (.outWord w)) t = s.outByte (4 * w + t) := by
  interval_cases t <;> simp [State.readLoc]

/-- What a write of a word of IN stores. -/
theorem inByte_writeLoc_inWord (s : State) (v : Word) (w : Fin 1024) {t : Nat} (ht : t < 4) :
    (s.writeLoc v (.inWord w)).inByte (4 * w + t) = byteOf v t := by
  have hread := Memory.read_writeAll_inside s.inBuf (4 * w) t (bytes32 v) ht
  rw [bytes32_getElem v ht] at hread
  simp [State.inByte, readIn, State.writeLoc, hread]

/-- Settles O13, from the bytes of a word of each window. -/
theorem bufferWindowsAreBigEndian : Obligations.BufferWindowsAreBigEndian := by
  intro s v w _ hw
  have hin : Loc.wf s.cfg (.inWord w) = true := decide_eq_true hw
  have hout : Loc.wf s.cfg (.outWord w) = true := decide_eq_true hw
  refine ⟨⟨_, busRead_of_ungated hin rfl, fun t ht => byteOf_readLoc_inWord s w ht⟩,
    ⟨_, busRead_of_gated hout rfl, fun hb => by simp [hb], fun hb t ht => ?_⟩, fun hb t ht => ?_⟩
  · rw [hb]; exact byteOf_readLoc_outWord s w ht
  · have hwrite := busWrite_of_idle hb hin rfl v
    simp only [Loc.offset] at hwrite
    rw [hwrite]
    exact inByte_writeLoc_inWord s v w ht

/-! ### Reading back what was written -/

/-- An accepted write keeps the configuration. -/
@[simp] theorem writeLoc_cfg (s : State) (v : Word) (l : Loc) : (s.writeLoc v l).cfg = s.cfg := by
  cases l <;> rfl

/-- A write to a location other than CMD launches nothing. -/
theorem writeLoc_busy (s : State) (v : Word) {l : Loc} (hl : l ≠ .cmd) : (s.writeLoc v l).busy = s.busy := by
  cases l with
  | cmd => exact absurd rfl hl
  | id | version | config | ctlen | status | irqen | keylen | msglen | outlen | xl | xr | fout | key _ | p _ | s _ _ | inWord _
  | outWord _ => rfl

/-- What a location the host can write, other than CMD and STATUS, holds after a write of `v`. -/
theorem busRead_of_busWrite_idle {s : State} (hb : s.busy = false) {l : Loc} (hl : l.wf s.cfg = true) (hw : l.readOnly = false)
    (hcmd : l ≠ .cmd) (v : Word) :
    (s.busWrite l.offset v).2.busRead l.offset = (.okay, (s.writeLoc v l).readLoc l) := by
  rw [busWrite_of_idle hb hl hw]
  exact busRead_of_idle ((writeLoc_busy s v hcmd).trans hb) (by simpa using hl)

theorem readLoc_writeLoc_key (s : State) (v : Word) (w : Fin 14) : (s.writeLoc v (.key w)).readLoc (.key w) = v := by
  simp [State.writeLoc, State.readLoc]

theorem readLoc_writeLoc_inWord (s : State) (v : Word) (w : Fin 1024) :
    (s.writeLoc v (.inWord w)).readLoc (.inWord w) = v := by
  rw [← be32_byteOf ((s.writeLoc v (.inWord w)).readLoc (.inWord w))]
  simp (disch := decide) only [byteOf_readLoc_inWord, inByte_writeLoc_inWord, be32_byteOf]

/-- Settles O14: each register, read where it was written. -/
theorem registerReadsBackWhatWasWritten : Obligations.RegisterReadsBackWhatWasWritten := by
  intro s v hb _
  refine ⟨fun l hl hwf => ?_, ?_, ?_⟩
  · have hwritable : l.readOnly = false ∧ l ≠ .cmd ∧ (s.writeLoc v l).readLoc l = v := by
      rcases hl with rfl | rfl | rfl | ⟨w, rfl⟩ | ⟨w, rfl⟩
      · exact ⟨rfl, nofun, rfl⟩
      · exact ⟨rfl, nofun, rfl⟩
      · exact ⟨rfl, nofun, rfl⟩
      · exact ⟨rfl, nofun, readLoc_writeLoc_key s v w⟩
      · exact ⟨rfl, nofun, readLoc_writeLoc_inWord s v w⟩
    obtain ⟨hro, hcmd, hback⟩ := hwritable
    exact ⟨by rw [busWrite_of_idle hb hwf hro], by rw [busRead_of_busWrite_idle hb hwf hro hcmd, hback]⟩
  · rw [← keylen_word]
    exact busRead_of_busWrite_idle (l := .keylen) hb rfl rfl nofun v
  · rw [← IrqEnables.word_ofWord]
    exact busRead_of_busWrite_idle (l := .irqen) hb rfl rfl nofun v

/-! ### The P and S windows (R53, R54) -/

/-- Settles O16: busy gates the windows on the bus, and KEYED in the location's own value. -/
theorem windowsShowTheCipherOnlyWhileKeyedAndIdle : Obligations.WindowsShowTheCipherOnlyWhileKeyedAndIdle := by
  intro s i k j _
  refine ⟨(busRead_of_gated (l := .p i) rfl rfl).trans ?_, (busRead_of_gated (l := .s k j) rfl rfl).trans ?_⟩ <;>
    cases hb : s.busy <;> cases hk : s.status.keyed <;> simp [State.readLoc, State.keyed, hk]

end Sys2Proof.Machine
end

section
/-! What each command leaves unchanged (10_state.md R31, R32, R47 to R56), and the invariants of BF-CORE's state that every step
keeps: STATUS is legal (R300), a CipherState is a key schedule (R35), and OUT is zero from OUTLEN on (R204). -/

namespace Sys2Proof.Machine

open Sys2Proof.Spec

/-! ### The frame of a command -/

/-- Settles O34: a completion is a failure, which writes STATUS alone, or the writes of the one or two commands that share them. -/
theorem commandFrame : Obligations.CommandFrame := by
  intro i s t h
  rcases exec_cases i s with ⟨_, e⟩ | ⟨rfl, e⟩ | ⟨rfl, _, _, _, e⟩ | ⟨rfl, e⟩ | ⟨rfl, _, e⟩ |
    ⟨_, ⟨rfl, _⟩ | ⟨rfl, _⟩, _, e⟩ | ⟨_, _, ⟨rfl, _⟩ | ⟨rfl, _⟩, _, _, e⟩ <;> rw [h] at e <;> cases e
  all_goals simp [State.inByte, State.outByte]

/-! ### STATUS is legal (R300) -/

/-- The invariant speaks of STATUS alone, BUSY included. -/
theorem statusOk_of_eq {s t : State} (hstatus : t.status = s.status) (hbusy : t.busy = s.busy) (hs : StatusOk s) :
    StatusOk t := by
  simpa only [StatusOk, hstatus, hbusy] using hs

theorem statusOk_reset : StatusOk State.reset := ⟨by decide, by decide, nofun⟩

/-- Every code of R300 is at most 6. -/
theorem CmdError.code_le (e : CmdError) : e.code.toNat ≤ 6 := by
  cases e <;> decide

/-- A completion with a code of R300 leaves STATUS legal, whatever it was. -/
theorem statusOk_finish (s : State) {code : BitVec 4} (h : code.toNat ≤ 6) : StatusOk (s.finish code) := by
  simp [StatusOk, h]

/-- A command completes with a code of R300. -/
theorem exec_code_le {i : Instr} {s t : State} (h : exec i s = .next t) :
    ∃ (u : State) (code : BitVec 4), t = u.finish code ∧ code.toNat ≤ 6 := by
  rcases exec_cases i s with ⟨err, e⟩ | ⟨_, e⟩ | ⟨_, _, _, _, e⟩ | ⟨_, e⟩ | ⟨_, _, e⟩ | ⟨_, _, _, e⟩ | ⟨_, _, _, _, _, e⟩ <;>
    rw [h] at e <;> cases e
  · exact ⟨_, _, rfl, err.code_le⟩
  all_goals exact ⟨_, _, rfl, by decide⟩

/-- An accepted write keeps STATUS legal: a launch clears DONE and the error, and a STATUS write clears ERR only with
ERRCODE (R43, R231). -/
theorem statusOk_writeLoc {s : State} (hs : StatusOk s) (v : Word) (l : Loc) : StatusOk (s.writeLoc v l) := by
  cases l with
  | cmd => exact ⟨by simp [State.writeLoc], by simp [State.writeLoc], fun _ => ⟨rfl, rfl⟩⟩
  | status =>
    obtain ⟨hcode, herr, hbusy⟩ := hs
    refine ⟨?_, ?_, fun hb => ?_⟩
    · simp only [State.writeLoc, Status.w1c_errcode]
      split
      · decide
      · exact hcode
    · simp only [State.writeLoc, Status.w1c_err, Status.w1c_errcode]
      cases v.getLsbD 2 <;> simp [herr]
    · obtain ⟨hd, he⟩ := hbusy hb
      simp [State.writeLoc, hd, he]
  | id | version | config | ctlen | irqen | keylen | msglen | outlen | xl | xr | fout | key _ | p _ | s _ _ | inWord _
  | outWord _ => exact statusOk_of_eq rfl rfl hs

/-- Settles O49, by each of the operations a step can use. -/
theorem stepKeepsStatusLegal : Obligations.StepKeepsStatusLegal := by
  intro s t hs hstep
  refine step_keeps StatusOk (fun s _ => statusOk_of_eq (s := State.reset) rfl rfl statusOk_reset) (fun _ hs => hs)
    (fun s hs => statusOk_of_eq (s := s) rfl (State.spend_busy s) hs)
    (fun _ _ hs => hs) (fun s _ => statusOk_finish s (by decide)) (fun i s t _ h => ?_) (fun _ hs => hs)
    (fun _ v _ l _ _ _ hs => statusOk_writeLoc hs v l) s t hs hstep
  obtain ⟨u, code, rfl, hcode⟩ := exec_code_le h
  exact statusOk_finish u hcode

/-! ### A CipherState is a key schedule (R35) -/

/-- The invariant speaks of the configuration, KEYED and the CipherState alone. -/
theorem cipherOk_of_eq {s t : State} (hcfg : t.cfg = s.cfg) (hkeyed : t.status.keyed = s.status.keyed)
    (hcipher : t.cipher = s.cipher) (hs : CipherOk s) : CipherOk t := by
  simpa only [CipherOk, hcfg, hkeyed, hcipher] using hs

/-- An unkeyed state has no CipherState to speak of. -/
theorem cipherOk_of_unkeyed {s : State} (h : s.status.keyed = false) : CipherOk s := by
  simp [CipherOk, h]

/-- No bus write reaches P, S or KEYED (R31, R32, R43). -/
theorem writeLoc_cipher (s : State) (v : Word) (l : Loc) :
    (s.writeLoc v l).cipher = s.cipher ∧ (s.writeLoc v l).status.keyed = s.status.keyed := by
  cases l <;> exact ⟨rfl, rfl⟩

/-- A command keeps the invariant: KSCHED makes a key schedule of a legal key, CLRKEY unkeys, and no other command writes P, S or
KEYED (R131, R140). -/
theorem cipherOk_exec {i : Instr} {s t : State} (hs : CipherOk s) (h : exec i s = .next t) : CipherOk t := by
  rcases exec_cases i s with ⟨_, e⟩ | ⟨_, e⟩ | ⟨_, hmin, hmax, hct, e⟩ | ⟨_, e⟩ | ⟨_, _, e⟩ | ⟨_, _, _, e⟩ |
    ⟨_, _, _, _, _, e⟩ <;> rw [h] at e <;> cases e
  case inr.inr.inl => exact fun _ => ⟨hct, s.operands.key, s.operands.keylen.toNat, hmin, hmax, by simp⟩
  case inr.inr.inr.inl => exact cipherOk_of_unkeyed (by simp)
  all_goals exact cipherOk_of_eq (by simp) (by simp) (by simp) hs

/-- Settles O51, by each of the operations a step can use. -/
theorem stepKeepsCipherDerived : Obligations.StepKeepsCipherDerived := by
  intro s t hs hstep
  refine step_keeps CipherOk (fun s _ => cipherOk_of_unkeyed rfl) (fun _ hs => hs) (fun _ hs => hs) (fun _ _ hs => hs)
    (fun _ hs => hs) (fun _ _ _ hs h => cipherOk_exec hs h) (fun _ hs => hs) (fun s v _ l _ _ _ hs => ?_) s t hs hstep
  obtain ⟨hcipher, hkeyed⟩ := writeLoc_cipher s v l
  exact cipherOk_of_eq (writeLoc_cfg s v l) hkeyed hcipher hs

/-! ### OUT is zero from OUTLEN on (R204) -/

/-- The invariant speaks of the configuration, OUT and OUTLEN alone; an unwritten byte of OUT also depends on the count of resets. -/
theorem outOk_of_eq {s t : State} (hcfg : t.cfg = s.cfg) (hout : t.outBuf = s.outBuf) (hlen : t.outlen = s.outlen)
    (hresets : t.resets = s.resets) (hs : OutOk s) : OutOk t := by
  simpa only [OutOk, State.outByte, hcfg, hout, hlen, hresets] using hs

/-- A byte sequence is what stripping leaves of it, and then zeros (R202). -/
theorem eq_strip_append_zeros (r : List Byte) : ∃ n, r = strip r ++ List.replicate n 0#8 := by
  induction r with
  | nil => exact ⟨0, rfl⟩
  | cons b rest ih =>
    obtain ⟨n, hn⟩ := ih
    cases hs : strip rest with
    | nil =>
      rw [hs, List.nil_append] at hn
      by_cases hb : b = 0#8
      · exact ⟨n + 1, by simp only [strip, hs, hb, if_true]; simp [← hn, List.replicate_succ]⟩
      · exact ⟨n, by simp only [strip, hs, hb, if_false]; simp [← hn]⟩
    | cons c r => exact ⟨n, by rw [hs] at hn; simp [strip, hs, ← hn]⟩

/-- From the stripped length on, a byte sequence is zero. -/
theorem getElem?_of_strip_length_le {r : List Byte} {k : Nat} (hk : (strip r).length ≤ k) (hkr : k < r.length) :
    r[k]? = some 0#8 := by
  obtain ⟨n, hn⟩ := eq_strip_append_zeros r
  have hlen : r.length = (strip r).length + n := by simpa using congrArg List.length hn
  rw [hn, List.getElem?_append_right hk, List.getElem?_replicate, if_pos (by omega)]

/-- A result that fits, with nothing but zeros from its length after stripping on, leaves OUT zero from OUTLEN on. -/
theorem outOk_writeResult {s : State} (hcfg : s.cfg.wf = true) {r : List Byte} {n : Nat} (hr : r.length ≤ s.cfg.msgMax)
    (hn : n ≤ r.length) (hzero : ∀ k, n ≤ k → k < r.length → r[k]? = some 0#8) : OutOk (s.writeResult r n) := by
  obtain ⟨_, _, hmax⟩ := config_wf_iff.1 hcfg
  have hlen : (s.writeResult r n).outlen.toNat = n := Nat.mod_eq_of_lt (by omega)
  refine ⟨hcfg, by rw [hlen]; exact hn.trans hr, .inr fun k hk hkmax => ?_⟩
  rw [hlen] at hk
  simp only [State.writeResult_cfg] at hkmax
  have hread : (s.writeResult r n).outBuf.read k = some 0#8 := by
    rw [State.writeResult_outBuf, Memory.read_ofBytes_zero]
    by_cases hkr : k < r.length
    · rw [List.getElem?_append_left hkr, hzero k hk hkr]
    · rw [List.getElem?_append_right (by omega), List.getElem?_replicate, if_pos (by omega)]
  rw [State.outByte, hread]; rfl

/-- A command keeps the invariant: ENCM and DECM write OUT whole, and no other command writes OUT or OUTLEN. -/
theorem outOk_exec {i : Instr} {s t : State} (hs : OutOk s) (h : exec i s = .next t) : OutOk t := by
  rcases exec_cases i s with ⟨_, e⟩ | ⟨_, e⟩ | ⟨_, _, _, _, e⟩ | ⟨_, e⟩ | ⟨_, _, e⟩ | ⟨_, _, _, e⟩ |
    ⟨r, n, hrule, _, hfits, e⟩ <;> rw [h] at e <;> cases e
  case inr.inr.inr.inr.inr.inr =>
    have ⟨hcfg, _⟩ := hs
    have hresult : r.length ≤ s.cfg.msgMax ∧ n ≤ r.length ∧ ∀ k, n ≤ k → k < r.length → r[k]? = some 0#8 := by
      rcases hrule with ⟨_, rfl, rfl⟩ | ⟨_, hwhole, rfl, rfl⟩
      · obtain ⟨hblocks, hone, _⟩ := config_wf_iff.1 hcfg
        refine ⟨?_, le_rfl, fun k hk hkr => by omega⟩
        rw [mapBlocks_length_of_whole _ (by simpa using padLen_mod _)]
        simpa using padLen_le _ _ hfits hblocks hone
      · refine ⟨?_, strip_length_le _, fun k hk hkr => getElem?_of_strip_length_le hk hkr⟩
        rw [mapBlocks_length_of_whole _ (by simpa using hwhole)]
        simpa using hfits
    obtain ⟨hr, hn, hzero⟩ := hresult
    exact outOk_of_eq rfl rfl rfl rfl (outOk_writeResult hcfg hr hn hzero)
  all_goals exact outOk_of_eq (by simp) (by simp) (by simp) (by simp) hs

/-- No bus write reaches OUT or OUTLEN (R89), or counts as a reset. -/
theorem writeLoc_out (s : State) (v : Word) (l : Loc) :
    (s.writeLoc v l).outBuf = s.outBuf ∧ (s.writeLoc v l).outlen = s.outlen ∧ (s.writeLoc v l).resets = s.resets := by
  cases l <;> exact ⟨rfl, rfl, rfl⟩

/-- Settles O52, by each of the operations a step can use. -/
theorem stepKeepsOutTailZero : Obligations.StepKeepsOutTailZero := by
  intro s t hs hstep
  refine step_keeps OutOk (fun s hs => ?_) (fun _ hs => hs) (fun _ hs => hs) (fun _ _ hs => hs) (fun _ hs => hs)
    (fun _ _ _ hs h => outOk_exec hs h) (fun _ hs => hs) (fun s v _ l _ _ _ hs => ?_) s t hs hstep
  · obtain ⟨hcfg, _⟩ := hs
    exact ⟨hcfg, Nat.zero_le _, .inl ⟨rfl, rfl⟩⟩
  · obtain ⟨hout, hlen, hresets⟩ := writeLoc_out s v l
    exact outOk_of_eq (writeLoc_cfg s v l) hout hlen hresets hs

/-! ### At reset (R400) -/

/-- Settles O53: idle, unkeyed, with no error and nothing written. -/
theorem resetMeetsTheInvariants : Obligations.ResetMeetsTheInvariants := by
  have hcfg : State.reset.cfg.wf = true := config_wf_iff.2 ⟨by decide, by decide, by decide⟩
  exact ⟨⟨hcfg, List.Pairwise.nil, List.Pairwise.nil, nofun, nofun⟩, statusOk_reset, nofun,
    cipherOk_of_unkeyed rfl, hcfg, Nat.zero_le _, .inl ⟨rfl, rfl⟩⟩

end Sys2Proof.Machine
end

section
/-! Which steps change the cipher or clear OVR (10_state.md R31, R32, R35, R43; 60_exceptions.md R306). -/

namespace Sys2Proof.Machine

/-! ### P, S and KEYED -/

/-- No bus write reaches P, S or KEYED, dropped or not. -/
theorem busWrite_cipher (s : State) (off : Offset) (v : Word) :
    (s.busWrite off v).2.cipher = s.cipher ∧ (s.busWrite off v).2.status.keyed = s.status.keyed := by
  rcases busWrite_cases s off v with e | ⟨_, _, _, _, e⟩ | ⟨l, _, _, _, e⟩ <;> rw [e]
  · exact ⟨rfl, rfl⟩
  · exact ⟨rfl, rfl⟩
  · exact writeLoc_cipher s v l

/-- No host step reaches P, S or KEYED. -/
theorem hostStep_cipher {s t : State} (h : hostStep s = .next t) :
    t.cipher = s.cipher ∧ t.status.keyed = s.status.keyed := by
  rcases hostStep_cases s with ⟨_, e | e⟩ | ⟨_, _, e⟩ | ⟨off, v, _, _, _, e⟩ | ⟨_, _, _, e⟩ <;> rw [h] at e <;> cases e
  · exact ⟨rfl, rfl⟩
  · exact ⟨rfl, rfl⟩
  · exact ⟨rfl, rfl⟩
  · exact busWrite_cipher s.spend off v

/-- No command but KSCHED and CLRKEY reaches P, S or KEYED. -/
theorem exec_cipher {i : Instr} {s t : State} (h : exec i s = .next t) (hk : i ≠ .ksched) (hc : i ≠ .clrkey) :
    t.cipher = s.cipher ∧ t.status.keyed = s.status.keyed := by
  obtain ⟨_, _, _, _, _, _, _, _, _, _, _, _, _, _, hcipher, _⟩ := commandFrame i s t h
  exact hcipher hk hc

/-- Settles O54: the step of every other agent or command leaves all three as they are. -/
theorem onlyKschedClrkeyAndResetChangeTheCipher : Obligations.OnlyKschedClrkeyAndResetChangeTheCipher := by
  intro s t hstep hchanged
  have hsame : ¬ (t.cipher = s.cipher ∧ t.status.keyed = s.status.keyed) := not_and_or.2 hchanged
  rcases step_cases s with ⟨hturn, _⟩ | ⟨i, hturn, e⟩ | ⟨_, e⟩ | ⟨_, e⟩
  · exact .inl hturn
  · rw [hturn]
    by_cases hk : i = .ksched
    · exact .inr (.inl (by rw [hk]))
    by_cases hc : i = .clrkey
    · exact .inr (.inr (by rw [hc]))
    exact absurd (exec_cipher (e.symm.trans hstep) hk hc) hsame
  · rw [hstep] at e; cases e
    exact absurd ⟨rfl, rfl⟩ hsame
  · exact absurd (hostStep_cipher (e.symm.trans hstep)) hsame

/-! ### OVR -/

/-- An accepted write that clears OVR is a STATUS write of 1 to it (R43). -/
theorem writeLoc_clears_ovr {s : State} {v : Word} {l : Loc} (hset : s.status.ovr = true)
    (hclear : (s.writeLoc v l).status.ovr = false) : l = .status ∧ v.getLsbD 3 = true := by
  cases l with
  | status =>
    simp only [State.writeLoc, Status.w1c_ovr, hset, Bool.true_and, Bool.not_eq_false'] at hclear
    exact ⟨rfl, hclear⟩
  | cmd | id | version | config | ctlen | irqen | keylen | msglen | outlen | xl | xr | fout | key _ | p _ | s _ _ | inWord _
  | outWord _ => exact absurd (hset.symm.trans hclear) nofun

/-- A bus write that clears OVR is a write of 1 to it at the offset of STATUS (R43, R306). -/
theorem busWrite_clears_ovr {s : State} {off : Offset} {v : Word} (hset : s.status.ovr = true)
    (hclear : (s.busWrite off v).2.status.ovr = false) : off = 0x0014#16 ∧ v.getLsbD 3 = true := by
  rcases busWrite_cases s off v with e | ⟨_, _, _, _, e⟩ | ⟨l, hl, _, _, e⟩ <;> rw [e] at hclear
  · exact absurd (hset.symm.trans hclear) nofun
  · exact absurd hclear nofun
  · obtain ⟨rfl, hv⟩ := writeLoc_clears_ovr hset hclear
    exact ⟨(offset_of_locate hl).symm, hv⟩

/-- A host step that clears OVR is a `wr` of 1 to it. -/
theorem hostStep_clears_ovr {s t : State} (hset : s.status.ovr = true) (h : hostStep s = .next t)
    (hclear : t.status.ovr = false) : ∃ v : Word, v.getLsbD 3 = true ∧ s.host.current = some (.wr 0x0014#16 v) := by
  rcases hostStep_cases s with ⟨_, e | e⟩ | ⟨_, _, e⟩ | ⟨off, v, _, hcur, _, e⟩ | ⟨_, _, _, e⟩ <;> rw [h] at e <;> cases e
  pick_goal 4
  · obtain ⟨rfl, hv⟩ := busWrite_clears_ovr (s := s.spend) hset hclear
    exact ⟨v, hv, hcur⟩
  all_goals exact absurd (hset.symm.trans hclear) nofun

/-- No command touches OVR (R306). -/
theorem exec_ovr {i : Instr} {s t : State} (h : exec i s = .next t) : t.status.ovr = s.status.ovr := by
  obtain ⟨_, _, _, _, _, _, _, _, _, _, hovr, _⟩ := commandFrame i s t h
  exact hovr

/-- Settles O55: a completion keeps OVR, and of the host's statements only that write clears it. -/
theorem overrunIsSticky : Obligations.OverrunIsSticky := by
  intro s t hset hstep hclear
  rcases step_cases s with ⟨hturn, _⟩ | ⟨i, _, e⟩ | ⟨_, e⟩ | ⟨hturn, e⟩
  · exact .inl hturn
  · have hovr : t.status.ovr = s.tick.status.ovr := exec_ovr (e.symm.trans hstep)
    exact absurd (hset.symm.trans (hovr.symm.trans hclear)) nofun
  · rw [hstep] at e; cases e
    exact absurd (hset.symm.trans hclear) nofun
  · exact .inr ⟨hturn, hostStep_clears_ovr (s := s.tick) hset (e.symm.trans hstep) hclear⟩

end Sys2Proof.Machine
end

section
/-! While unkeyed, P and S are not observable (10_state.md R36, R53, R54; log entry 8): every part of a step is followed on a state
and on the same state with another CipherState in it. -/

namespace Sys2Proof.Machine

open Sys2Proof.Spec

/-! ### Another CipherState in a state -/

/-- The state with other words in P and S, and with other words in the copy that the latch holds, if it holds one. -/
def State.withCiphers (s : State) (c d : CipherState) : State :=
  { s with
    cipher := c
    latch := s.latch.map fun l => { l with snapshot := { l.snapshot with cipher := d } } }

theorem withoutCipher_withCiphers (s : State) (c d : CipherState) : withoutCipher (s.withCiphers c d) = withoutCipher s := by
  cases hl : s.latch <;> simp [withoutCipher, State.withCiphers, hl]

theorem withCiphers_withoutCipher (s : State) (c d : CipherState) :
    (withoutCipher s).withCiphers c d = s.withCiphers c d := by
  cases hl : s.latch <;> simp [withoutCipher, State.withCiphers, hl]

/-- A state's own words in P, S and the latch give the state. -/
theorem exists_withCiphers_self (s : State) : ∃ d, s.withCiphers s.cipher d = s := by
  obtain ⟨_, _, _, _, _, _, _, _, _, _, _, _, _, latch, _, _, _, _⟩ := s
  cases latch with
  | none => exact ⟨CipherState.zero, rfl⟩
  | some l => exact ⟨l.snapshot.cipher, rfl⟩

/-- States that differ only in P and S are one state with different words in them. -/
theorem eq_withCiphers_of_withoutCipher_eq {s t : State} (h : withoutCipher s = withoutCipher t) :
    ∃ c d, t = s.withCiphers c d := by
  obtain ⟨d, hd⟩ := exists_withCiphers_self t
  exact ⟨t.cipher, d, by rw [← withCiphers_withoutCipher s, h, withCiphers_withoutCipher, hd]⟩

@[simp] theorem State.withCiphers_cfg (s : State) (c d : CipherState) : (s.withCiphers c d).cfg = s.cfg := rfl
@[simp] theorem State.withCiphers_host (s : State) (c d : CipherState) : (s.withCiphers c d).host = s.host := rfl
@[simp] theorem State.withCiphers_status (s : State) (c d : CipherState) : (s.withCiphers c d).status = s.status := rfl

@[simp] theorem State.withCiphers_busy (s : State) (c d : CipherState) : (s.withCiphers c d).busy = s.busy := by
  simp [State.busy, State.withCiphers]

theorem turn_withCiphers (s : State) (c d : CipherState) : (s.withCiphers c d).turn = s.turn := by
  cases hl : s.latch <;> simp [State.turn, State.withCiphers, hl]

theorem tick_withCiphers (s : State) (c d : CipherState) : (s.withCiphers c d).tick = s.tick.withCiphers c d := rfl

theorem spend_withCiphers (s : State) (c d : CipherState) : (s.withCiphers c d).spend = s.spend.withCiphers c d := by
  cases hl : s.latch <;> simp [State.spend, State.withCiphers, hl]

/-- The inputs of the command in flight differ in the CipherState alone. -/
theorem operands_withCiphers (s : State) (c d : CipherState) :
    ∃ e, (s.withCiphers c d).operands = { s.operands with cipher := e } := by
  cases hl : s.latch with
  | none => exact ⟨c, by simp [State.operands, State.withCiphers, State.inputs, hl]⟩
  | some l => exact ⟨d, by simp [State.operands, State.withCiphers, hl]⟩

/-! ### What two steps that show no CipherState have in common -/

/-- Two outcomes that differ only in P and S, and not at all in P and S once they are keyed. -/
def SameButCipher (o o' : Host.Outcome State Fault Refusal) : Prop :=
  (∃ s' t', o = .next s' ∧ o' = .next t' ∧ withoutCipher s' = withoutCipher t' ∧
    (s'.status.keyed = true → s'.cipher = t'.cipher)) ∨
  (∃ e, o = .fault e ∧ o' = .fault e)

theorem sameButCipher_of_unkeyed {s : State} (h : s.status.keyed = false) (c d : CipherState) :
    SameButCipher (.next s) (.next (s.withCiphers c d)) :=
  .inl ⟨_, _, rfl, rfl, (withoutCipher_withCiphers s c d).symm, fun hk => absurd (hk.symm.trans h) nofun⟩

/-- The same for two states whose host agents have moved alike. -/
theorem sameButCipher_withHost {s : State} (hu : s.status.keyed = false) (c d : CipherState) (h : HostAgent) :
    SameButCipher (.next { s with host := h }) (.next { s.withCiphers c d with host := h }) :=
  sameButCipher_of_unkeyed (s := { s with host := h }) hu c d

theorem sameButCipher_refl (s : State) : SameButCipher (.next s) (.next s) :=
  .inl ⟨_, _, rfl, rfl, rfl, fun _ => rfl⟩

theorem sameButCipher_fault (e : Fault) : SameButCipher (.fault e) (.fault e) := .inr ⟨e, rfl, rfl⟩

/-! ### The bus -/

/-- The P and S windows read 0 while unkeyed (R53, R54), and no other location shows P or S. -/
theorem readLoc_withCiphers {s : State} (hu : s.status.keyed = false) (c d : CipherState) (l : Loc) :
    (s.withCiphers c d).readLoc l = s.readLoc l := by
  cases l with
  | p i => simp [State.readLoc, State.keyed, hu]
  | s k j => simp [State.readLoc, State.keyed, hu]
  | status => simp [State.readLoc]
  | id | version | config | ctlen | cmd | irqen | keylen | msglen | outlen | xl | xr | fout | key _ | inWord _ | outWord _ => rfl

theorem busRead_withCiphers {s : State} (hu : s.status.keyed = false) (c d : CipherState) (off : Offset) :
    (s.withCiphers c d).busRead off = s.busRead off := by
  simp only [State.busRead, State.withCiphers_cfg, State.withCiphers_busy, readLoc_withCiphers hu]

/-- An accepted write does the same, but that a launch takes its copy of P and S. -/
theorem writeLoc_withCiphers (s : State) (c d : CipherState) (v : Word) (l : Loc) :
    ∃ d', (s.withCiphers c d).writeLoc v l = (s.writeLoc v l).withCiphers c d' := by
  cases l with
  | cmd => exact ⟨c, rfl⟩
  | id | version | config | ctlen | status | irqen | keylen | msglen | outlen | xl | xr | fout | key _ | p _ | s _ _ | inWord _
  | outWord _ => exact ⟨d, rfl⟩

theorem busWrite_withCiphers (s : State) (c d : CipherState) (off : Offset) (v : Word) :
    ∃ d', (s.withCiphers c d).busWrite off v = ((s.busWrite off v).1, (s.busWrite off v).2.withCiphers c d') := by
  simp only [State.busWrite, State.withCiphers_cfg, State.withCiphers_busy]
  split
  · exact ⟨d, rfl⟩
  · exact ⟨d, rfl⟩
  · next l _ =>
    obtain ⟨d', hd⟩ := writeLoc_withCiphers s c d v l
    split_ifs
    · exact ⟨d, rfl⟩
    · exact ⟨d, rfl⟩
    · exact ⟨d', by rw [hd]⟩

/-! ### The host -/

/-- A statement internal to the host reads the host agent alone. -/
theorem withHost_withCiphers {s : State} (hu : s.status.keyed = false) (c d : CipherState) (h : Except Fault HostAgent) :
    SameButCipher (s.withHost h) ((s.withCiphers c d).withHost h) := by
  cases h with
  | ok h => exact sameButCipher_withHost hu c d h
  | error e => exact sameButCipher_fault e

theorem hostExec_withCiphers {s : State} (hu : s.status.keyed = false) (c d : CipherState) (st : Stmt) :
    SameButCipher (hostExec st s) (hostExec st (s.withCiphers c d)) := by
  cases st with
  | wr off v =>
    obtain ⟨d', hd⟩ := busWrite_withCiphers s c d off v
    simp only [hostExec, hd, State.withCiphers_host]
    obtain ⟨_, hkeyed⟩ := busWrite_cipher s off v
    exact sameButCipher_withHost (hkeyed.trans hu) c d' _
  | rd off =>
    simp only [hostExec, busRead_withCiphers hu]
    exact sameButCipher_withHost hu c d _
  | label _ | bit1 _ _ | bit0 _ _ | expect _ =>
    simp only [hostExec, State.withCiphers_host]
    exact withHost_withCiphers hu c d _
  | halt => exact sameButCipher_of_unkeyed hu c d

theorem hostStep_withCiphers {s : State} (hu : s.status.keyed = false) (c d : CipherState) :
    SameButCipher (hostStep s) (hostStep (s.withCiphers c d)) := by
  simp only [hostStep, State.withCiphers_host, spend_withCiphers]
  cases s.host.current with
  | none => exact sameButCipher_of_unkeyed hu c d
  | some st => exact hostExec_withCiphers (s := s.spend) hu c d st

/-! ### Completions -/

/-- A completion that writes nothing but STATUS shows no CipherState. -/
theorem sameButCipher_finish {s : State} (hu : s.status.keyed = false) (c d : CipherState) (code : BitVec 4) :
    SameButCipher (.next (s.finish code)) (.next ((s.withCiphers c d).finish code)) :=
  sameButCipher_of_unkeyed (s := s.finish code) hu c d

/-- A command launched unkeyed reads no CipherState: the four that would are errors (R302), KSCHED reads the key and the table
(R134), and CLRKEY and NOP read nothing. -/
theorem exec_withCiphers {s : State} (hu : s.status.keyed = false) (ho : s.operands.keyed = false) (c d : CipherState)
    (i : Instr) : SameButCipher (exec i s) (exec i (s.withCiphers c d)) := by
  obtain ⟨e, he⟩ := operands_withCiphers s c d
  cases i with
  | nop => exact sameButCipher_finish hu c d 0#4
  | clrkey => exact sameButCipher_refl _
  | encb | decb | encm | decm | feval =>
    simp only [exec, execEncb, execDecb, execEncm, execDecm, execFeval, he, ho, Bool.false_eq_true, if_false]
    exact sameButCipher_finish hu c d _
  | ksched =>
    simp only [exec, execKsched, he, State.withCiphers_cfg]
    split_ifs
    · exact sameButCipher_finish hu c d _
    · exact sameButCipher_finish hu c d _
    · exact sameButCipher_refl _

/-! ### The step -/

theorem step_withCiphers {s : State} (hu : s.status.keyed = false) (ho : s.operands.keyed = false) (c d : CipherState) :
    SameButCipher (step s) (step (s.withCiphers c d)) := by
  simp only [step, turn_withCiphers, tick_withCiphers]
  cases s.turn with
  | reset => exact sameButCipher_refl _
  | host => exact hostStep_withCiphers (s := s.tick) hu c d
  | engine cmd =>
    cases cmd with
    | op i => exact exec_withCiphers (s := s.tick) hu ho c d i
    | illegal => exact sameButCipher_finish (s := s.tick) hu c d _

/-- With nothing latched while keyed, an unkeyed state's command reads KEYED = 0. -/
theorem operands_unkeyed {s : State} (hu : s.status.keyed = false) (hl : ∀ l, s.latch = some l → l.snapshot.keyed = false) :
    s.operands.keyed = false := by
  cases h : s.latch with
  | none => rw [State.operands_of_idle h]; exact hu
  | some l => rw [State.operands_of_latch h]; exact hl l h

/-- Settles O60: the second state is the first with another CipherState in it, and no part of a step shows that. -/
theorem unkeyedCipherIsUnobservable : Obligations.UnkeyedCipherIsUnobservable := by
  intro s t hu hl hsame
  obtain ⟨c, d, rfl⟩ := eq_withCiphers_of_withoutCipher_eq hsame
  exact step_withCiphers hu (operands_unkeyed hu hl) c d

end Sys2Proof.Machine
end

section
/-! The inputs of a command in flight (43_control.md R231, R232; log entry 8): a host step leaves them, and any other step ends the
command. -/

namespace Sys2Proof.Machine

open Sys2Proof.Spec

/-! ### The latched inputs are the registers' own -/

/-- The invariant speaks of the latch and the inputs alone. -/
theorem latchOk_of_eq {s t : State} (hlatch : t.latch = s.latch) (hinputs : t.inputs = s.inputs) (hs : LatchOk s) :
    LatchOk t := by
  simpa only [LatchOk, hlatch, hinputs] using hs

theorem latchOk_of_idle {s : State} (h : s.latch = none) : LatchOk s := by
  simp [LatchOk, h]

/-- A step of the draw passes over the latched inputs. -/
theorem latchOk_spend {s : State} (hs : LatchOk s) : LatchOk s.spend := by
  intro m hm
  obtain ⟨l, hl, rfl⟩ := Option.map_eq_some_iff.1 hm
  exact hs l hl

/-- An accepted write keeps the invariant: a launch latches the registers as they are, and while a command is in flight the input
registers are locked (R91). -/
theorem latchOk_writeLoc {s : State} (hs : LatchOk s) (v : Word) {l : Loc} (hlock : s.busy = true → l.busyLocked = false) :
    LatchOk (s.writeLoc v l) := by
  have hidle : l.busyLocked = true → s.latch = none := fun hl => by
    cases hlatch : s.latch with
    | none => rfl
    | some m => rw [hlock (by simp [State.busy, hlatch])] at hl; cases hl
  cases l with
  | cmd => rintro m ⟨⟩; rfl
  | keylen | msglen | xl | xr | key _ | inWord _ => exact latchOk_of_idle (hidle rfl)
  | status | irqen | id | version | config | ctlen | outlen | fout | p _ | s _ _ | outWord _ => exact latchOk_of_eq rfl rfl hs

/-- A completed command leaves the latch. -/
theorem exec_latch {i : Instr} {s t : State} (h : exec i s = .next t) : t.latch = none := by
  obtain ⟨u, code, e⟩ := exec_next i s
  rw [h] at e; cases e
  rfl

theorem latchOk_step {s t : State} (hs : LatchOk s) (hstep : step s = .next t) : LatchOk t :=
  step_keeps LatchOk (fun _ _ => latchOk_of_idle rfl) (fun _ hs => hs) (fun _ hs => latchOk_spend hs) (fun _ _ hs => hs)
    (fun _ _ => latchOk_of_idle rfl) (fun _ _ _ _ h => latchOk_of_idle (exec_latch h)) (fun _ hs => hs)
    (fun _ v _ _ _ _ hlock hs => latchOk_writeLoc hs v hlock) s t hs hstep

/-! ### The command in flight -/

/-- A host step leaves a command in flight, its latched inputs and the registers they were read from: no statement does more than
`busWrite_of_busy` lets a write do. -/
theorem hostStep_latched {s t : State} {l : Latch} (hl : s.latch = some l) (h : hostStep s = .next t) :
    t.inputs = s.inputs ∧ t.cfg = s.cfg ∧ t.resets = s.resets ∧
      ∃ m, t.latch = some m ∧ m.cmd = l.cmd ∧ m.snapshot = l.snapshot := by
  have hspend : s.spend.latch = some { l with wait := l.wait - 1 } := by simp [hl]
  rcases hostStep_cases s with ⟨_, e | e⟩ | ⟨_, _, e⟩ | ⟨off, v, _, _, _, e⟩ | ⟨_, _, _, e⟩ <;> rw [h] at e <;> cases e
  · exact ⟨rfl, rfl, rfl, l, hl, rfl, rfl⟩
  · exact ⟨rfl, rfl, rfl, _, hspend, rfl, rfl⟩
  · exact ⟨rfl, rfl, rfl, _, hspend, rfl, rfl⟩
  · obtain ⟨st, q, hw⟩ := busWrite_of_busy (s := s.spend) (by simp [State.busy, hl]) off v
    rw [hw]
    exact ⟨rfl, rfl, rfl, _, hspend, rfl, rfl⟩

/-- Every step but the host's ends the command in flight: it completes, or is lost in a reset (R233, R237). -/
theorem step_latch_of_not_host {s t : State} (hturn : s.turn ≠ .host) (hstep : step s = .next t) : t.latch = none := by
  rcases step_cases s with ⟨_, e⟩ | ⟨_, _, e⟩ | ⟨_, e⟩ | ⟨hhost, _⟩
  · rw [hstep] at e; cases e; rfl
  · exact exec_latch (e.symm.trans hstep)
  · rw [hstep] at e; cases e; rfl
  · exact absurd hhost hturn

/-- Settles O50: the invariant by each of the operations a step can use, and the command in flight by whose turn it is. -/
theorem stepKeepsLatchCoherent : Obligations.StepKeepsLatchCoherent := by
  intro s t hstep
  refine ⟨fun hs => latchOk_step hs hstep, fun l hl hturn => ?_, fun hturn => step_latch_of_not_host hturn hstep⟩
  have hhost : hostStep s.tick = .next t := by simpa [step, hturn] using hstep
  exact hostStep_latched (s := s.tick) hl hhost

end Sys2Proof.Machine
end

section
/-! Bus accesses one by one (20_memory.md R80, R82, R83, R87 to R93): the offsets that name no location, writes to read-only and to
busy-locked locations, gated reads, address bits above the window, and the frame of a write. -/

namespace Sys2Proof.Machine

/-! ### Offsets that name no location (R87, R88) -/

/-- R87: a location's offset is that of a whole word. -/
theorem offset_aligned {m : Nat} {off : Offset} {l : Loc} (h : locate m off = .loc l) : off.toNat % 4 = 0 := by
  rw [← offset_of_locate h]
  cases l <;> simp only [Loc.offset, BitVec.toNat_ofNat] <;> omega

/-- R88: a location's offset is in none of the ranges that the map of R37 reserves, nor past the buffers. -/
theorem offset_not_reserved {c : Config} {off : Offset} {l : Loc} (h : locate c.msgMax off = .loc l) :
    ¬ (0x34 ≤ off.toNat ∧ off.toNat < 0x40 ∨ 0x78 ≤ off.toNat ∧ off.toNat < 0x80 ∨
      0xC8 ≤ off.toNat ∧ off.toNat < 0x1000 ∨ 0x2000 + c.msgMax ≤ off.toNat ∧ off.toNat < 0x3000 ∨
      0x3000 + c.msgMax ≤ off.toNat ∧ off.toNat < 0x4000 ∨ 0x4000 ≤ off.toNat) := by
  have hwf := wf_of_locate h
  rw [← offset_of_locate h]
  cases l with
  | id | version | config | ctlen | cmd | status | irqen | keylen | msglen | outlen | xl | xr | fout | key _ | p _ | s _ _ =>
    simp only [Loc.offset, BitVec.toNat_ofNat]
    omega
  | inWord w | outWord w =>
    have hw : 4 * w.val < c.msgMax := of_decide_eq_true hwf
    simp only [Loc.offset, BitVec.toNat_ofNat]
    omega

/-- An access that names no location gets ERROR and changes nothing. -/
theorem bus_of_no_location {s : State} {off : Offset} (h : ∀ l, locate s.cfg.msgMax off ≠ .loc l) (v : Word) :
    s.busRead off = (.error, 0#32) ∧ s.busWrite off v = (.error, s) := by
  constructor
  · rcases busRead_cases s off with e | ⟨l, hl, _⟩
    · exact e
    · exact absurd hl (h l)
  · rcases busWrite_cases s off v with e | ⟨l, hl, _⟩ | ⟨l, hl, _⟩
    · exact e
    · exact absurd hl (h l)
    · exact absurd hl (h l)

/-- Settles O7: neither kind of offset is a location's. -/
theorem misalignedOrReservedAccessIsAnError : Obligations.MisalignedOrReservedAccessIsAnError :=
  fun _ _ v =>
    ⟨fun hmis => bus_of_no_location (fun _ hl => hmis (offset_aligned hl)) v,
      fun _ hres => bus_of_no_location (fun _ hl => offset_not_reserved hl hres) v⟩

/-! ### Read-only and busy-locked locations (R89, R91) -/

theorem busWrite_of_readOnly {s : State} {l : Loc} (hl : l.wf s.cfg = true) (hro : l.readOnly = true) (v : Word) :
    s.busWrite l.offset v = (.error, s) := by
  simp [busWrite_offset hl, hro]

/-- R91: a write to a locked location while BUSY = 1 is dropped. -/
theorem busWrite_of_locked {s : State} (hb : s.busy = true) {l : Loc} (hl : l.wf s.cfg = true) (hlock : l.busyLocked = true)
    (v : Word) : s.busWrite l.offset v = (.okay, s.dropWrite) := by
  have hw : l.readOnly = false := by cases l <;> cases hlock <;> rfl
  simp [busWrite_offset hl, hw, hb, hlock]

/-- R83, R91: busy or idle, a write to a location that is neither read-only nor locked takes effect. -/
theorem busWrite_of_unlocked {s : State} {l : Loc} (hl : l.wf s.cfg = true) (hw : l.readOnly = false)
    (hlock : l.busyLocked = false) (v : Word) : s.busWrite l.offset v = (.okay, s.writeLoc v l) := by
  simp [busWrite_offset hl, hw, hlock]

/-- R90: the bus answers a CMD write with OKAY, whether it launches or is dropped. -/
theorem busWrite_cmd_okay (s : State) (v : Word) : (s.busWrite (Loc.offset .cmd) v).1 = .okay := by
  cases hb : s.busy with
  | true => rw [busWrite_of_locked hb (l := .cmd) rfl rfl]
  | false => rw [busWrite_of_idle hb (l := .cmd) rfl rfl]

/-- Settles O8, by the list of R89. -/
theorem readOnlyWriteIsAnError : Obligations.ReadOnlyWriteIsAnError := by
  intro s v l _ hwf
  refine ⟨fun hl => busWrite_of_readOnly hwf ?_ v, fun hl => hl ▸ busWrite_cmd_okay s v⟩
  rcases hl with rfl | rfl | rfl | rfl | rfl | rfl | ⟨_, rfl⟩ | ⟨_, _, rfl⟩ | ⟨_, rfl⟩ <;> rfl

/-- Settles O9: the locked locations by the list of R91, and of every write that `busWrite_of_busy` keeps the inputs. -/
theorem busyLockedWriteIsDropped : Obligations.BusyLockedWriteIsDropped := by
  intro s v l _ hwf hb
  obtain ⟨st, q, hw⟩ := busWrite_of_busy hb l.offset v
  refine ⟨fun hl => busWrite_of_locked hb hwf ?_ v, by rw [hw]; rfl, by rw [hw], ?_, ?_⟩
  · rcases hl with rfl | rfl | rfl | rfl | rfl | ⟨_, rfl⟩ | ⟨_, rfl⟩ <;> rfl
  · rintro rfl; exact busWrite_of_unlocked hwf rfl rfl v
  · rintro rfl; exact busWrite_of_unlocked hwf rfl rfl v

/-! ### Gated reads and the registers' values (R82, R92) -/

/-- R41: `MSG_MAX` fits the word that CONFIG reads as. -/
theorem readLoc_config_toNat {s : State} (hs : s.cfg.wf = true) : (s.readLoc .config).toNat = s.cfg.msgMax := by
  obtain ⟨_, _, hmax⟩ := config_wf_iff.1 hs
  exact Nat.mod_eq_of_lt (by omega)

/-- Settles O10, by the two lists of R92. -/
theorem busyGatedReadIsZero : Obligations.BusyGatedReadIsZero := by
  intro s l hs hwf
  refine ⟨fun hb => ⟨fun hl => ?_, fun hl => ?_⟩, fun hb => busRead_of_idle hb hwf, rfl, rfl, readLoc_config_toNat hs, rfl, rfl,
    (BitVec.ofNat_toNat ..).symm, rfl, rfl, rfl, rfl, rfl, fun _ => rfl⟩
  · have hgated : l.busyGated = true := by
      rcases hl with rfl | rfl | rfl | rfl | ⟨_, rfl⟩ | ⟨_, _, rfl⟩ | ⟨_, rfl⟩ <;> rfl
    simp [busRead_of_gated hwf hgated, hb]
  · have hungated : l.busyGated = false := by
      rcases hl with rfl | rfl | rfl | rfl | rfl | rfl | rfl | rfl | rfl | ⟨_, rfl⟩ | ⟨_, rfl⟩ <;> rfl
    exact busRead_of_ungated hwf hungated

/-! ### The 64 KiB window (R80) -/

/-- `BASE` is a multiple of 0x10000, so the offset of an address in the window is its distance from `BASE`. -/
theorem offsetOf_base_add (off : Offset) : offsetOf (Config.base + off.toNat) = off := by
  apply BitVec.eq_of_toNat_eq
  simp only [offsetOf, Config.base, BitVec.toNat_ofNat]
  omega

/-- Settles O11: the two ports are those of the offset that the address has in the window. -/
theorem busDecodesLowAddressBits : Obligations.BusDecodesLowAddressBits := by
  intro s off v
  simp only [State.memRead, State.memWrite, offsetOf_base_add, and_self]

/-! ### The frame of a write (R83) -/

/-- While idle, a bus write leaves what the location's rule leaves, which for a read-only location is the state itself. -/
theorem busWrite_state_of_idle {s : State} (hb : s.busy = false) {l : Loc} (hl : l.wf s.cfg = true) (v : Word) :
    (s.busWrite l.offset v).2 = s.writeLoc v l := by
  cases hro : l.readOnly with
  | false => rw [busWrite_of_idle hb hl hro]
  | true =>
    rw [busWrite_of_readOnly hl hro]
    cases l <;> cases hro <;> rfl

/-- A write of IN leaves the bytes outside its word; no other write reaches IN. -/
theorem inByte_writeLoc_outside (s : State) (v : Word) {l : Loc} {n : Nat}
    (h : ∀ w : Fin 1024, l = .inWord w → n < 4 * w.val ∨ 4 * w.val + 4 ≤ n) : (s.writeLoc v l).inByte n = s.inByte n := by
  cases l with
  | inWord w =>
    have hread := Memory.read_writeAll_outside s.inBuf (4 * w) n (bytes32 v) (h w rfl)
    simp [State.inByte, readIn, State.writeLoc, hread]
  | id | version | config | ctlen | cmd | status | irqen | keylen | msglen | outlen | xl | xr | fout | key _ | p _ | s _ _
  | outWord _ => rfl

theorem outByte_writeLoc (s : State) (v : Word) (l : Loc) (n : Nat) : (s.writeLoc v l).outByte n = s.outByte n := by
  obtain ⟨hout, _, hresets⟩ := writeLoc_out s v l
  simp only [State.outByte, hout, hresets]

/-- A word of IN reads as before after a write to another location. -/
theorem readLoc_writeLoc_other_inWord (s : State) (v : Word) {l : Loc} {w : Fin 1024} (h : l ≠ .inWord w) :
    (s.writeLoc v l).readLoc (.inWord w) = s.readLoc (.inWord w) := by
  have hbyte (n : Nat) (hlow : 4 * w.val ≤ n) (hhigh : n < 4 * w.val + 4) : (s.writeLoc v l).inByte n = s.inByte n := by
    apply inByte_writeLoc_outside
    rintro u rfl
    have hne : u.val ≠ w.val := fun e => h (by rw [Fin.ext e])
    omega
  simp (disch := omega) only [State.readLoc, hbyte]

/-- A word of KEY reads as before after a write to another location. -/
theorem readLoc_writeLoc_other_key (s : State) (v : Word) {l : Loc} {i : Fin 14} (h : l ≠ .key i) :
    (s.writeLoc v l).readLoc (.key i) = s.readLoc (.key i) := by
  cases l with
  | key w =>
    have hne : w.val ≠ i.val := fun e => h (by rw [Fin.ext e])
    exact Vector.getElem_set_ne w.isLt i.isLt hne
  | id | version | config | ctlen | cmd | status | irqen | keylen | msglen | outlen | xl | xr | fout | p _ | s _ _ | inWord _
  | outWord _ => rfl

/-- A location reads as before after a write to another one, other than CMD. -/
theorem readLoc_writeLoc_other (s : State) (v : Word) {l m : Loc} (hcmd : l ≠ .cmd) (hne : l ≠ m) :
    (s.writeLoc v l).readLoc m = s.readLoc m := by
  cases m with
  | inWord _ => exact readLoc_writeLoc_other_inWord s v hne
  | key _ => exact readLoc_writeLoc_other_key s v hne
  | status | irqen | keylen | msglen | xl | xr =>
    -- one field each, which only the write that `hne` excludes stores to
    cases l <;> simp_all [State.writeLoc, State.readLoc, State.busy]
  | id | version | config | ctlen | cmd | outlen | fout | p _ | s _ _ | outWord _ =>
    -- no write reaches what these read
    cases l <;> rfl

/-- Settles O15: while idle the write is its location's rule, and a rule reaches no other location. -/
theorem hostWriteFrame : Obligations.HostWriteFrame := by
  intro s v l m hb _ hwf hcmd hne
  rw [busWrite_state_of_idle hb hwf]
  exact ⟨readLoc_writeLoc_other s v hcmd hne, fun _ hn => inByte_writeLoc_outside s v hn, outByte_writeLoc s v l⟩

end Sys2Proof.Machine
end

section
/-! The statements of the host assembly (30_encoding.md R121, R123; log entries 5, 11), and that a read is no more than its own
statement (20_memory.md R93). -/

namespace Sys2Proof.Machine

/-! ### The host's turn -/

/-- With no reset event to come, the host's step is its statement's meaning, with one step of the draw passed. -/
theorem step_of_statement {s : State} (hturn : s.turn = .host) (hsched : s.resetSchedule = []) {st : Stmt}
    (hcur : s.host.current = some st) : step s = hostExec st s.spend := by
  simp [step, hturn, hostStep, tick_of_nil s hsched, hcur]

/-- While idle there is no draw to count. -/
theorem spend_of_idle {s : State} (h : s.latch = none) : s.spend = s := by
  cases s; cases h; rfl

/-- The host's turn comes with a command in flight only while the host has a statement to run (R234). -/
theorem latch_of_host_inactive {s : State} (hturn : s.turn = .host) (h : s.host.active = false) : s.latch = none := by
  rcases turn_cases s with ⟨e, _⟩ | ⟨_, ⟨_, _, e, _⟩ | ⟨_, hidle | ⟨_, _, _, hactive⟩⟩⟩
  · rw [hturn] at e; cases e
  · rw [hturn] at e; cases e
  · exact hidle
  · rw [h] at hactive; cases hactive

/-! ### Reads (R93) -/

/-- No location shows the draw. -/
@[simp] theorem readLoc_spend (s : State) (l : Loc) : s.spend.readLoc l = s.readLoc l := by
  cases l with
  | status => simp only [State.readLoc, State.spend_status, State.spend_busy]
  | id | version | config | ctlen | cmd | irqen | keylen | msglen | outlen | xl | xr | fout | key _ | p _ | s _ _ | inWord _
  | outWord _ => rfl

@[simp] theorem busRead_spend (s : State) (off : Offset) : s.spend.busRead off = s.busRead off := by
  simp only [State.busRead, State.spend_cfg, State.spend_busy, readLoc_spend]

/-- No location shows the host agent. -/
theorem readLoc_host (s : State) (h : HostAgent) (l : Loc) : ({ s with host := h } : State).readLoc l = s.readLoc l := by
  cases l <;> rfl

/-- Settles O56: the read's step writes the host agent of `s.spend` and nothing else. -/
theorem readHasNoSideEffect : Obligations.ReadHasNoSideEffect := by
  intro s off hturn hsched hcur
  refine ⟨_, step_of_statement hturn hsched hcur, ?_, rfl, rfl, fun h => by simp [h], fun l h => by simp [h], fun m => ?_⟩
  · simp [HostAgent.advance]
  · exact (readLoc_host s.spend _ m).trans (readLoc_spend s m)

/-! ### Branches (R121; log entry 11) -/

/-- The first place a label stands at is its position. -/
theorem labelPosition_of_first {prog : List Stmt} {name n : Nat} (hn : prog[n]? = some (.label name))
    (hfirst : ∀ m, m < n → prog[m]? ≠ some (.label name)) : labelPosition prog name = some n := by
  obtain ⟨hlt, hget⟩ := List.getElem?_eq_some_iff.1 hn
  refine List.findIdx?_eq_some_iff_getElem.2 ⟨hlt, by simp [hget], fun m hm => ?_⟩
  have hne := hfirst m hm
  rw [List.getElem?_eq_getElem (hm.trans hlt)] at hne
  simpa using hne

theorem labelPosition_of_absent {prog : List Stmt} {name : Nat} (h : ∀ n : Nat, prog[n]? ≠ some (.label name)) :
    labelPosition prog name = none := by
  refine List.findIdx?_eq_none_iff.2 fun st hst => ?_
  obtain ⟨n, hn⟩ := List.mem_iff_getElem?.1 hst
  have hne : st ≠ .label name := fun e => h n (e ▸ hn)
  simpa using hne

/-- `bit1` and `bit0` are one branch, taken when the bit is the one they name. -/
theorem step_of_branch {s : State} (hturn : s.turn = .host) (hsched : s.resetSchedule = []) {b : Fin 32} {name : Nat}
    {taken : Bool} (h : s.host.current = some (.bit1 b name) ∧ s.host.t.getLsbD b = taken ∨
      s.host.current = some (.bit0 b name) ∧ s.host.t.getLsbD b = !taken) :
    step s = s.spend.withHost (if taken then s.host.jump name else .ok s.host.advance) := by
  rcases h with ⟨hcur, hbit⟩ | ⟨hcur, hbit⟩ <;> rw [step_of_statement hturn hsched hcur]
  · simp only [hostExec, State.spend_host, hbit]
  · simp only [hostExec, State.spend_host, hbit]
    cases taken <;> rfl

/-- Settles O57, statement by statement. -/
theorem hostStatementsFollowTheirRules : Obligations.HostStatementsFollowTheirRules := by
  intro s hturn hsched
  refine ⟨fun hidle => spend_of_idle (by simpa [State.busy] using hidle), fun off v hcur => step_of_statement hturn hsched hcur,
    fun name hcur => step_of_statement hturn hsched hcur, fun b name taken hbranch => ?_, fun v hcur => ?_, fun hend => ?_⟩
  · rw [step_of_branch hturn hsched hbranch]
    refine ⟨?_, ?_, ?_⟩
    · rintro rfl; rfl
    · rintro n rfl hn hfirst
      simp only [if_true, HostAgent.jump, labelPosition_of_first hn hfirst, State.withHost]
    · rintro rfl habsent
      simp only [if_true, HostAgent.jump, labelPosition_of_absent habsent, State.withHost]
  · exact ⟨_, step_of_statement hturn hsched hcur, rfl, by simp, rfl⟩
  · have hspend : s.host.active = false → s.spend = s := fun h => spend_of_idle (latch_of_host_inactive hturn h)
    rcases hend with hcur | hcur
    · rw [step_of_statement hturn hsched hcur, hspend (by simp [HostAgent.active, hcur])]; rfl
    · simp [step, hturn, hostStep, tick_of_nil s hsched, hcur]

end Sys2Proof.Machine
end

section
/-! The command decoder (30_encoding.md R110 to R113), and a command word placed for the next step (43_control.md R231, R233; log
entries 8, 12). -/

namespace Sys2Proof

/-! ### What the decoder answers -/

/-- R112: every opcode is below 8. -/
theorem opcode_lt (i : Instr) : (opcode i).toNat < 8 := by
  cases i <;> decide

/-- A word is its reserved bits over its opcode field. -/
theorem eq_encode_of_fields {w : Word} {i : Instr} (hhi : w.extractLsb' 8 24 = 0#24) (hop : w.extractLsb' 0 8 = opcode i) :
    w = encode i := by
  have happend : w.extractLsb' 8 24 ++ w.extractLsb' 0 8 = w.extractLsb' 0 32 :=
    BitVec.extractLsb'_append_extractLsb'_eq_extractLsb' rfl
  rw [encode, ← hhi, ← hop, happend, BitVec.extractLsb'_eq_self]

/-- R113: the decoder answers ILLEGAL, on a reserved bit or an opcode past the table, or a command, on that command's fields. -/
theorem decode_cases (w : Word) :
    (decode w = .illegal ∧ (w.extractLsb' 8 24 ≠ 0#24 ∨ 8 ≤ (w.extractLsb' 0 8).toNat)) ∨
    (∃ i, decode w = .op i ∧ w.extractLsb' 8 24 = 0#24 ∧ w.extractLsb' 0 8 = opcode i) := by
  by_cases hhi : w.extractLsb' 8 24 = 0#24
  · unfold decode
    rw [if_neg (not_not.2 hhi)]
    split
    case h_9 => exact .inl ⟨rfl, .inr (by grind)⟩
    all_goals exact .inr ⟨_, rfl, hhi, BitVec.eq_of_toNat_eq ‹_›⟩
  · exact .inl ⟨if_pos hhi, .inl hhi⟩

/-- R112, R113: a command's word decodes to it. -/
theorem decode_encode (i : Instr) : decode (encode i) = .op i :=
  match i with
  | .nop => Laws.RoundTrip.nop.1
  | .ksched => Laws.RoundTrip.ksched.1
  | .encb => Laws.RoundTrip.encb.1
  | .decb => Laws.RoundTrip.decb.1
  | .encm => Laws.RoundTrip.encm.1
  | .decm => Laws.RoundTrip.decm.1
  | .feval => Laws.RoundTrip.feval.1
  | .clrkey => Laws.RoundTrip.clrkey.1

theorem decode_eq_op_iff {w : Word} {i : Instr} : decode w = .op i ↔ w = encode i := by
  constructor
  · intro h
    rcases decode_cases w with ⟨hill, _⟩ | ⟨j, hop, hhi, hlo⟩
    · rw [h] at hill; cases hill
    · rw [h] at hop; cases hop
      exact eq_encode_of_fields hhi hlo
  · rintro rfl
    exact decode_encode i

/-- R111: the ILLEGAL words. -/
theorem decode_eq_illegal_iff {w : Word} :
    decode w = .illegal ↔ w.extractLsb' 8 24 ≠ 0#24 ∨ 8 ≤ (w.extractLsb' 0 8).toNat := by
  rcases decode_cases w with ⟨hill, hfields⟩ | ⟨i, hop, hhi, hlo⟩
  · simp only [hill, hfields]
  · simpa [hop, hhi, hlo] using opcode_lt i

/-- Settles O4: `decode_eq_op_iff`; no command is ill formed. -/
theorem decodeAgreesWithEncode : Obligations.DecodeAgreesWithEncode :=
  fun _ _ _ => decode_eq_op_iff

/-- Settles O3: each word of the table is its command's `encode`. -/
theorem decodeOfEveryWord : Obligations.DecodeOfEveryWord :=
  fun _ => ⟨(decode_eq_op_iff (i := .nop)).2, (decode_eq_op_iff (i := .ksched)).2, (decode_eq_op_iff (i := .encb)).2,
    (decode_eq_op_iff (i := .decb)).2, (decode_eq_op_iff (i := .encm)).2, (decode_eq_op_iff (i := .decm)).2,
    (decode_eq_op_iff (i := .feval)).2, (decode_eq_op_iff (i := .clrkey)).2, decode_eq_illegal_iff⟩

/-- Settles O5: three commands' words, an opcode past the table, and a reserved bit. -/
theorem decodeOfWrittenWords : Obligations.DecodeOfWrittenWords :=
  ⟨decode_encode .ksched, decode_encode .encm, decode_encode .feval, decode_eq_illegal_iff.2 (by decide),
    decode_eq_illegal_iff.2 (by decide)⟩

end Sys2Proof

namespace Sys2Proof.Machine

/-! ### A placed command word (log entry 12) -/

/-- The word that is placed is the word itself. -/
theorem ofNat_toNat_mod (w : Word) : BitVec.ofNat 32 (w.toNat % 2 ^ 32) = w := by
  rw [Nat.mod_eq_of_lt w.isLt, BitVec.ofNat_toNat, BitVec.setWidth_eq]

/-- The next step after placing a word is the engine's, on the command the word decodes to (R235). -/
theorem turn_withFetchWord (s : State) (w : Word) : (s.withFetchWord 32 w.toNat).turn = .engine (decode w) := by
  rw [State.withFetchWord, ofNat_toNat_mod]
  rfl

theorem tick_withFetchWord (s : State) (n w : Nat) : (s.withFetchWord n w).tick = s.withFetchWord n w :=
  tick_of_nil _ rfl

/-- Settles O20: the step after the launch is the engine's, on the inputs that the launch latched. -/
theorem fetchedWordRuns : Obligations.FetchedWordRuns := by
  intro s w i _ hdecode
  refine ⟨?_, ?_, rfl⟩
  · simp only [decodeTableWord, ofNat_toNat_mod, hdecode]
  · simp only [step, turn_withFetchWord, hdecode, tick_withFetchWord]

/-- Settles O21: the write launches ILLEGAL, and the engine's step on ILLEGAL is the completion with code 5. -/
theorem illegalWordReportsIllegalCommand : Obligations.IllegalWordReportsIllegalCommand := by
  intro s w hfields hidle
  have hillegal : decode w = .illegal := decode_eq_illegal_iff.2 hfields
  have hstep : step (s.withFetchWord 32 w.toNat) = completeIllegal (s.withFetchWord 32 w.toNat) := by
    simp only [step, turn_withFetchWord, hillegal, tick_withFetchWord]
  exact ⟨⟨s.launch w, _, busWrite_of_idle hidle (l := .cmd) rfl rfl w, rfl, hillegal⟩, hstep⟩

end Sys2Proof.Machine
end

section
/-! A host program whose branches all have their labels never stops the model (log entry 11). -/

namespace Sys2Proof.Machine

/-- No command reaches the host agent (R233). -/
theorem exec_host {i : Instr} {s t : State} (h : exec i s = .next t) : t.host = s.host := by
  rcases exec_cases i s with ⟨_, e⟩ | ⟨_, e⟩ | ⟨_, _, _, _, e⟩ | ⟨_, e⟩ | ⟨_, _, e⟩ | ⟨_, _, _, e⟩ | ⟨_, _, _, _, _, e⟩ <;>
    rw [h] at e <;> cases e <;> simp

/-- With its labels defined the host's step answers a state, and leaves the program: a bus write reaches no host agent, and the
label of a branch is found. -/
theorem hostStep_next {s : State} (hlabels : s.labelsOk) :
    ∃ t, hostStep s = .next t ∧ t.host.program = s.host.program := by
  rcases hostStep_cases s with ⟨_, e | e⟩ | ⟨_, hprog, e⟩ | ⟨_, _, _, _, hprog, e⟩ | ⟨_, hnone, ⟨_, hcur, htgt⟩, _⟩
  · exact ⟨_, e, rfl⟩
  · exact ⟨_, e, rfl⟩
  · exact ⟨_, e, hprog⟩
  · exact ⟨_, e, hprog⟩
  · exact absurd hnone (labelPosition_ne_none hlabels (List.mem_of_getElem? hcur) htgt)

/-- With the host's labels defined a step answers a state, and they stay defined: no agent but the host can stop (R322), and no step
changes the program. -/
theorem step_next_of_labelsOk {s : State} (hlabels : s.labelsOk) : ∃ t, step s = .next t ∧ t.labelsOk := by
  rcases step_cases s with ⟨_, e⟩ | ⟨i, _, e⟩ | ⟨_, e⟩ | ⟨_, e⟩
  · exact ⟨_, e, hlabels⟩
  · obtain ⟨u, code, hexec⟩ := exec_next i s.tick
    refine ⟨_, e.trans hexec, ?_⟩
    rw [State.labelsOk, exec_host hexec]
    exact hlabels
  · exact ⟨_, e, hlabels⟩
  · obtain ⟨t, hstep, hprog⟩ := hostStep_next (s := s.tick) hlabels
    refine ⟨t, e.trans hstep, ?_⟩
    rw [State.labelsOk, hprog]
    exact hlabels

/-- Settles O59, by induction on the number of steps. -/
theorem runWithDefinedLabelsIsSafe : Obligations.RunWithDefinedLabelsIsSafe := by
  intro s hlabels k
  induction k generalizing s with
  | zero => exact ⟨s, rfl⟩
  | succ k ih =>
    obtain ⟨t, hstep, hlabels'⟩ := step_next_of_labelsOk hlabels
    rw [run_succ k hstep]
    exact ih t hlabels'

end Sys2Proof.Machine
end

section
/-! The key schedule (40_key_schedule.md): its three steps (R135 to R137), what its result depends on (R134, R139), and the commands
KSCHED and CLRKEY (R131, R140). -/

namespace Sys2Proof.Machine

open Sys2Proof.Spec

/-! ### Step 1: the table's words (R135) -/

/-- The cursor behind the first word: the words of the rest. -/
theorem ctWord_succ (b0 b1 b2 b3 : Byte) (rest : List Byte) (m : Nat) :
    ctWord (b0 :: b1 :: b2 :: b3 :: rest) (m + 1) = ctWord rest m := rfl

/-- Reading with one cursor meets the table's words in order. -/
theorem readWords_eq_map_ctWord (n : Nat) (ct : List Byte) (h : 4 * n ≤ ct.length) :
    readWords n ct = (List.range n).map (ctWord ct) := by
  induction n generalizing ct with
  | zero => simp [readWords]
  | succ n ih =>
    match ct, h with
    | b0 :: b1 :: b2 :: b3 :: rest, h =>
      have hrest : 4 * n ≤ rest.length := by simp only [List.length_cons] at h; omega
      have hnext : ctWord (b0 :: b1 :: b2 :: b3 :: rest) ∘ Nat.succ = ctWord rest := funext (ctWord_succ b0 b1 b2 b3 rest)
      rw [readWords, ih rest hrest, List.range_succ_eq_map, List.map_cons, List.map_map, hnext]
      rfl

/-- A word that lies in the table is made of the four bytes from its offset on. -/
theorem ctWord_eq_be32 {ct : List Byte} {m n : Nat} (hn : 4 * m = n) (h : n + 3 < ct.length) :
    ctWord ct m = be32 ct[n] ct[n + 1] ct[n + 2] ct[n + 3] := by
  subst hn
  simp only [ctWord, ctByte]
  congr <;> exact (List.getElem_eq_getD 0#8).symm

/-- `n` words from word `m` on. -/
theorem toList_ofFn_ctWord (ct : List Byte) (m n : Nat) :
    (Vector.ofFn fun i : Fin n => ctWord ct (m + i)).toList = (List.range' m n).map (ctWord ct) :=
  List.ext_getElem (by simp) (by simp)

theorem initFromTable_p_toList (ct : List Byte) : (initFromTable ct).p.toList = (List.range' 0 18).map (ctWord ct) := by
  simp [← toList_ofFn_ctWord, initFromTable]

theorem initFromTable_s_toList (ct : List Byte) (k : Nat) (h : k < 4) :
    (initFromTable ct).s[k].toList = (List.range' (18 + 256 * k) 256).map (ctWord ct) := by
  simp [← toList_ofFn_ctWord, initFromTable]

/-- Settles O39: P and the S-boxes are five consecutive runs of the words that the cursor meets. -/
theorem initFromTableReadsInOrder : Obligations.InitFromTableReadsInOrder := by
  intro ct hl
  refine ⟨?_, fun i hi => ?_, fun k j hk hj => ?_⟩
  · rw [initFromTable_p_toList, initFromTable_s_toList, initFromTable_s_toList, initFromTable_s_toList, initFromTable_s_toList,
      readWords_eq_map_ctWord 1042 ct (by omega), List.range_eq_range']
    simp only [← List.map_append]
    rw [List.range'_append_1 (s := 0), List.range'_append_1 (s := 0), List.range'_append_1 (s := 0),
      List.range'_append_1 (s := 0)]
  · rw [initFromTable_p]
    exact ctWord_eq_be32 rfl (by omega)
  · rw [initFromTable_s]
    exact ctWord_eq_be32 (by omega) (by omega)

/-! ### Step 2: the cyclic key (R136) -/

/-- The model's key byte is the bit field of R47. -/
theorem keyByte_eq_keyB (key : Vector Word 14) {n : Nat} (h : n < 56) : keyByte key n = keyB key n h := by
  have hword : n / 4 < 14 := by omega
  rw [keyByte, dif_pos hword]
  rfl

/-- Settles O40: every index into the key is below the key length, so its byte is one of R47. -/
theorem keyMixUsesTheCyclicKey : Obligations.KeyMixUsesTheCyclicKey := by
  intro c key len ⟨hmin, hmax⟩
  have hbyte : ∀ n, n % len < 56 := fun n => (Nat.mod_lt n (by omega)).trans_le hmax
  refine ⟨keyMix_s c key len, fun i hi => ?_⟩
  rw [keyMix_p, keyWord, keyByte_eq_keyB key (hbyte _), keyByte_eq_keyB key (hbyte _), keyByte_eq_keyB key (hbyte _),
    keyByte_eq_keyB key (hbyte _)]
  rfl

/-! ### Step 3: the invocations (R137) -/

/-- A pair of words overwritten, and what stays. -/
theorem getElem_set_pair {N : Nat} (v : Vector Word N) {i : Nat} (hi : 2 * i + 1 < N) (x y : Word) {n : Nat} (hn : n < N) :
    ((v.set (2 * i) x (by omega)).set (2 * i + 1) y)[n] = if n = 2 * i then x else if n = 2 * i + 1 then y else v[n] := by
  by_cases h0 : n = 2 * i
  · subst h0; simp
  by_cases h1 : n = 2 * i + 1
  · subst h1; simp
  · rw [Vector.getElem_set_ne _ _ (Ne.symm h1), Vector.getElem_set_ne _ _ (Ne.symm h0), if_neg h0, if_neg h1]

/-- Overwriting a pair of P is what R137 says of it. -/
theorem fillsP_fill (c : CipherState) (i : Fin 9) (a : Block) : FillsP c (c.fill (.p i) a) i a :=
  ⟨fun n hn => getElem_set_pair c.p (by omega) a.xl a.xr hn, fill_p_s c i a⟩

/-- Overwriting a pair of an S-box is what R137 says of it; the other S-boxes stay. -/
theorem fillsS_fill (c : CipherState) (k : Fin 4) (j : Fin 128) (a : Block) : FillsS c (c.fill (.s k j) a) k j a := by
  refine ⟨fill_s_p c k j a, fun m n hm hn => ?_⟩
  by_cases hk : m = k
  · subst hk
    simp only [CipherState.fill, Fin.getElem_fin, Vector.getElem_set_self, getElem_set_pair, true_and]
  · simp [CipherState.fill, hk, Ne.symm hk]

/-- R137 determines the CipherState after a pair of P is overwritten. -/
theorem fillsP_unique {c d d' : CipherState} {i : Nat} {a : Block} (h : FillsP c d i a) (h' : FillsP c d' i a) : d = d' := by
  obtain ⟨hp, hs⟩ := h
  obtain ⟨hp', hs'⟩ := h'
  exact CipherState.eq_of_words _ _ (fun n hn => (hp n hn).trans (hp' n hn).symm) (fun k j hk hj => by rw [hs, hs'])

/-- R137 determines the CipherState after a pair of an S-box is overwritten. -/
theorem fillsS_unique {c d d' : CipherState} {k j : Nat} {a : Block} (h : FillsS c d k j a) (h' : FillsS c d' k j a) :
    d = d' := by
  obtain ⟨hp, hs⟩ := h
  obtain ⟨hp', hs'⟩ := h'
  exact CipherState.eq_of_words _ _ (fun n hn => by rw [hp, hp']) (fun m n hm hn => (hs m n hm hn).trans (hs' m n hm hn).symm)

/-- Every invocation is one of the 9 that fill P or one of the 128 of an S-box. -/
theorem bootOrder_cases {m : Nat} (h : m < 521) :
    (∃ i : Fin 9, m = i ∧ bootOrder[m]? = some (.p i)) ∨
    (∃ (k : Fin 4) (j : Fin 128), m = 9 + 128 * k + j ∧ bootOrder[m]? = some (.s k j)) := by
  by_cases hp : m < 9
  · exact .inl ⟨⟨m, hp⟩, rfl, bootOrder_p m hp⟩
  · obtain ⟨k, j, hk, hj, rfl⟩ : ∃ k j, k < 4 ∧ j < 128 ∧ m = 9 + 128 * k + j :=
      ⟨(m - 9) / 128, (m - 9) % 128, by omega, by omega, by omega⟩
    exact .inr ⟨⟨k, hk⟩, ⟨j, hj⟩, rfl, bootOrder_s k j hk hj⟩

/-- A sequence that takes the fold's step at each entry of a list is the fold at the list's end. -/
theorem foldl_eq_of_steps {α β : Type} (f : α → β → α) (l : List β) (b : Nat → α)
    (h : ∀ m x, l[m]? = some x → b (m + 1) = f (b m) x) : l.foldl f (b 0) = b l.length := by
  induction l generalizing b with
  | nil => rfl
  | cons x xs ih =>
    rw [List.foldl_cons, ← h 0 x rfl]
    exact ih (fun m => b (m + 1)) fun m y hy => h (m + 1) y hy

theorem Boot.eq_of_fields {b b' : Boot} (hcipher : b.cipher = b'.cipher) (hacc : b.acc = b'.acc) : b = b' := by
  cases b; cases b'; congr

/-- Settles O41: what R137 says of an invocation determines the next working state, so the 521 states are those of the fold. -/
theorem bootstrapByInvocations : Obligations.BootstrapByInvocations := by
  intro c b hzero hp hs
  have hstep : ∀ m slot, bootOrder[m]? = some slot → b (m + 1) = (b m).step slot := by
    intro m slot hslot
    have hm : m < 521 := by simpa [bootOrder_length] using (List.getElem?_eq_some_iff.1 hslot).1
    rcases bootOrder_cases hm with ⟨i, rfl, e⟩ | ⟨k, j, rfl, e⟩ <;> cases hslot.symm.trans e
    · obtain ⟨hacc, hfill⟩ := hp i i.isLt
      exact Boot.eq_of_fields (fillsP_unique hfill (fillsP_fill ..)) hacc
    · obtain ⟨hacc, hfill⟩ := hs k j k.isLt j.isLt
      exact Boot.eq_of_fields (fillsS_unique hfill (fillsS_fill ..)) hacc
  rw [bootstrap, ← hzero, foldl_eq_of_steps _ _ b hstep, bootOrder_length]

/-! ### What the CipherState depends on (R134, R139) -/

/-- Step 1 reads the first 4168 bytes of the table alone. -/
theorem initFromTable_take (ct : List Byte) : initFromTable (ct.take 4168) = initFromTable ct := by
  have hword : ∀ m, m < 1042 → ctWord (ct.take 4168) m = ctWord ct m := by
    intro m hm
    have hbyte : ∀ n, n < 4168 → ctByte (ct.take 4168) n = ctByte ct n := fun n hn => by
      simp [ctByte, hn]
    rw [ctWord, hbyte _ (by omega), hbyte _ (by omega), hbyte _ (by omega), hbyte _ (by omega), ctWord]
  refine CipherState.eq_of_words _ _ (fun n hn => ?_) (fun k j hk hj => ?_)
  · rw [initFromTable_p, initFromTable_p, hword n (by omega)]
  · rw [initFromTable_s, initFromTable_s, hword _ (by omega)]

/-- Step 2 reads the first 72 bytes of the key's cyclic stream alone. -/
theorem keyMix_of_stream_eq (c : CipherState) {k1 k2 : Vector Word 14} {l1 l2 : Nat}
    (h : ∀ n, n < 72 → keyByte k1 (n % l1) = keyByte k2 (n % l2)) : keyMix c k1 l1 = keyMix c k2 l2 := by
  have hword : ∀ i, i < 18 → keyWord k1 l1 i = keyWord k2 l2 i := fun i hi => by
    rw [keyWord, h _ (by omega), h _ (by omega), h _ (by omega), h _ (by omega), keyWord]
  refine CipherState.eq_of_words _ _ (fun n hn => ?_) (fun k j hk hj => by rw [keyMix_s, keyMix_s])
  rw [keyMix_p, keyMix_p, hword n hn]

/-- Equal first 4168 bytes of the table and equal streams of key bytes give equal CipherStates: step 3 reads neither. -/
theorem deriveCipher_of_stream_eq {ct ct' : List Byte} {k1 k2 : Vector Word 14} {l1 l2 : Nat}
    (hct : ct.take 4168 = ct'.take 4168) (h : ∀ n, n < 72 → keyByte k1 (n % l1) = keyByte k2 (n % l2)) :
    deriveCipher ct k1 l1 = deriveCipher ct' k2 l2 := by
  rw [deriveCipher, deriveCipher, ← initFromTable_take ct, hct, initFromTable_take, keyMix_of_stream_eq _ h]

/-- Settles O43: the stream of an all-zero key is zero, whatever its length. -/
theorem keysWithOneStreamGiveOneCipher : Obligations.KeysWithOneStreamGiveOneCipher := by
  intro ct k1 k2 l1 l2 hmin1 _ hmin2 _
  refine ⟨deriveCipher_of_stream_eq rfl, fun hzero1 hzero2 => deriveCipher_of_stream_eq rfl fun n _ => ?_⟩
  rw [hzero1 _ (Nat.mod_lt n (by omega)), hzero2 _ (Nat.mod_lt n (by omega))]

/-! ### The commands -/

/-- KSCHED that passes its checks (R132, R133) installs the key schedule and sets KEYED. -/
theorem exec_ksched_of_legal {s : State} (hmin : 4 ≤ s.operands.keylen.toNat) (hmax : s.operands.keylen.toNat ≤ 56)
    (hct : 4168 ≤ s.cfg.constTable.length) :
    exec .ksched s = .next (State.finish { s with
      cipher := deriveCipher s.cfg.constTable s.operands.key s.operands.keylen.toNat
      status := { s.status with keyed := true } } 0#4) := by
  have hlen : ¬ (s.operands.keylen.toNat < 4 ∨ 56 < s.operands.keylen.toNat) := by omega
  have htable : ¬ s.cfg.ctLen < 4168 := Nat.not_lt.2 hct
  simp only [exec, execKsched, succeed, if_neg hlen, if_neg htable]

/-- Settles O42: the key's cyclic stream has only bytes below the key length. -/
theorem kschedIgnoresTheOldCipher : Obligations.KschedIgnoresTheOldCipher := by
  intro s t hmin hmax hlen hct hct' hkey htake
  refine ⟨_, _, exec_ksched_of_legal hmin hmax hct,
    exec_ksched_of_legal (by rwa [hlen]) (by rwa [hlen]) hct', ?_⟩
  simp only [State.finish_cipher, hlen]
  exact deriveCipher_of_stream_eq htake fun n _ => hkey _ (Nat.mod_lt n (by omega))

/-- Settles O23: `deriveCipher` is the three steps one after another. -/
theorem kschedResult : Obligations.KschedResult :=
  fun _ hmin hmax hct => exec_ksched_of_legal hmin hmax hct

/-- Settles O24: the completion writes the zero CipherState and STATUS, and empties the latch. -/
theorem clrkeyResult : Obligations.ClrkeyResult := by
  intro s
  refine ⟨_, rfl, fun i => ?_, fun k j => ?_, rfl, rfl, rfl⟩
  · simp [CipherState.zero]
  · simp [CipherState.zero]

end Sys2Proof.Machine
end

section
/-! The Feistel round processor (41_feistel.md): F in numbers (R160), the block functions round by round (R162 to R164) and as each
other's inverse (R165), and the commands ENCB, DECB and FEVAL (R170, R172, R175). -/

namespace Sys2Proof.Machine

/-! ### The block functions are inverse (R165) -/

/-- What follows the rounds (R162 to R164): the final swap undone, and the halves whitened with P words `r` and `l`. -/
def CipherState.whiten (c : CipherState) (r l : Fin 18) (b : Block) : Block := { xl := b.xr ^^^ c.p[l], xr := b.xl ^^^ c.p[r] }

theorem CipherState.crypt_eq_whiten (c : CipherState) (order : List (Fin 18)) (r l : Fin 18) (b : Block) :
    c.crypt order r l b = c.whiten r l (order.foldl c.round b) := rfl

/-- A whitening undoes the one with its P words exchanged. -/
theorem CipherState.whiten_whiten (c : CipherState) (r l : Fin 18) (b : Block) : c.whiten r l (c.whiten l r b) = b := by
  simp [whiten]

/-- One round with the P word that whitened `xl` undoes the last round under the whitening: what is left is whitened with that
round's own P word and the other of the two. -/
theorem CipherState.round_whiten_round (c : CipherState) (i r l : Fin 18) (b : Block) :
    c.round (c.whiten r l (c.round b i)) l = c.whiten i r b := by
  have hxl : b.xl ^^^ c.p[i] ^^^ c.p[l] ^^^ c.p[l] = b.xl ^^^ c.p[i] := by simp [BitVec.xor_assoc]
  have hxr (f p : Word) : b.xr ^^^ f ^^^ p ^^^ f = b.xr ^^^ p := by
    rw [BitVec.xor_assoc b.xr, BitVec.xor_comm f p, ← BitVec.xor_assoc, BitVec.xor_assoc _ f f, BitVec.xor_self, BitVec.xor_zero]
  simp only [round, whiten, Block.swap, hxl, hxr]

theorem CipherState.foldl_round_succ (c : CipherState) (k : Nat → Fin 18) (n : Nat) (b : Block) :
    ((List.range (n + 1)).map k).foldl c.round b = c.round (((List.range n).map k).foldl c.round b) (k n) := by
  rw [List.range_succ, List.map_append, List.foldl_append]
  rfl

/-- `n` rounds with the P words `k (n + 1)` down to `k 2` undo `n` rounds with `k 0` up to `k (n - 1)` under their whitening. -/
theorem CipherState.foldl_round_whiten (c : CipherState) (k : Nat → Fin 18) (n : Nat) (b : Block) :
    ((List.range n).map fun m => k (n + 1 - m)).foldl c.round
      (c.whiten (k n) (k (n + 1)) (((List.range n).map k).foldl c.round b)) = c.whiten (k 0) (k 1) b := by
  induction n with
  | zero => rfl
  | succ n ih =>
    have hrest : (fun m => k (n + 1 + 1 - m)) ∘ Nat.succ = fun m => k (n + 1 - m) := by
      funext m; rw [Function.comp_apply, Nat.succ_eq_add_one, Nat.add_sub_add_right]
    rw [c.foldl_round_succ k, List.range_succ_eq_map, List.map_cons, List.map_map, hrest, List.foldl_cons, Nat.sub_zero,
      round_whiten_round, ih]

/-- Whatever P words are used, the same ones in reverse order undo the block function. -/
theorem CipherState.crypt_crypt_reverse (c : CipherState) (k : Nat → Fin 18) (n : Nat) (b : Block) :
    c.crypt ((List.range n).map fun m => k (n + 1 - m)) (k 1) (k 0) (c.crypt ((List.range n).map k) (k n) (k (n + 1)) b) = b := by
  rw [crypt_eq_whiten, crypt_eq_whiten, foldl_round_whiten, whiten_whiten]

theorem CipherState.decBlock_encBlock (c : CipherState) (b : Block) : c.decBlock (c.encBlock b) = b :=
  c.crypt_crypt_reverse (Fin.ofNat 18) 16 b

theorem CipherState.encBlock_decBlock (c : CipherState) (b : Block) : c.encBlock (c.decBlock b) = b :=
  c.crypt_crypt_reverse (fun m => Fin.ofNat 18 (17 - m)) 16 b

/-- Settles O38: each block function is the other's two-sided inverse. -/
theorem blockFunctionsAreInverse : Obligations.BlockFunctionsAreInverse := fun c =>
  have hdec : Function.LeftInverse c.decBlock c.encBlock := c.decBlock_encBlock
  have henc : Function.LeftInverse c.encBlock c.decBlock := c.encBlock_decBlock
  ⟨hdec, henc, ⟨hdec.injective, henc.surjective⟩, ⟨henc.injective, hdec.surjective⟩⟩

/-! ### The block functions by rounds (R162 to R164) -/

/-- A sequence that takes one round with P word `k m` at each `m` is, whitened at its end, the block function. -/
theorem CipherState.crypt_of_rounds (c : CipherState) (k : Nat → Fin 18) (r l : Fin 18) (n : Nat) (x : Nat → Block)
    (h : ∀ m, m < n → x (m + 1) = c.round (x m) (k m)) :
    c.crypt ((List.range n).map k) r l (x 0) = c.whiten r l (x n) := by
  rw [crypt_eq_whiten]
  congr 1
  induction n with
  | zero => rfl
  | succ n ih => rw [foldl_round_succ, ih fun m hm => h m (by omega), h n (by omega)]

/-- One round with the P word of a number below 18. -/
theorem CipherState.round_ofNat (c : CipherState) (b : Block) {n : Nat} (h : n < 18) :
    c.round b (Fin.ofNat 18 n) = { xl := b.xr ^^^ c.f (b.xl ^^^ c.p[n]), xr := b.xl ^^^ c.p[n] } := by
  have hword : c.p[Fin.ofNat 18 n] = c.p[n] := by
    simp only [Fin.getElem_fin, Fin.val_ofNat, Nat.mod_eq_of_lt h]
  rw [← hword]
  rfl

/-- Settles O36: round r of the 16 is the model's round with P word r. -/
theorem encBlockByRounds : Obligations.EncBlockByRounds := by
  intro c b x hx hstep
  rw [← hx]
  exact c.crypt_of_rounds (Fin.ofNat 18) 16 17 16 x fun r hr => (hstep r hr).trans (c.round_ofNat _ (by omega)).symm

/-- Settles O37: round r of the 16 is the model's round with P word 17 - r. -/
theorem decBlockByRounds : Obligations.DecBlockByRounds := by
  intro c b x hx hstep
  rw [← hx]
  exact c.crypt_of_rounds (fun r => Fin.ofNat 18 (17 - r)) 1 0 16 x fun r hr =>
    (hstep r hr).trans (c.round_ofNat _ (by omega)).symm

/-! ### F in numbers (R160) -/

/-- The entry that byte `t` of a word selects. -/
theorem CipherState.sbox_byteOf (c : CipherState) (k : Fin 4) (x : Word) (t : Nat) {n : Nat} (hn : n < 256)
    (h : x.toNat / 2 ^ (24 - 8 * t) % 256 = n) : c.sbox k (byteOf x t) = c.s[k][n] :=
  getElem_congr_idx ((byteOf_toNat x t).trans h)

/-- Settles O35: each byte of the word is its number modulo 256, and the sums wrap at 32 bits (R161). -/
theorem roundFunctionInNumbers : Obligations.RoundFunctionInNumbers := by
  intro c x
  have h0 : x.toNat / 2 ^ 24 < 256 := by omega
  rw [CipherState.f, c.sbox_byteOf 0 x 0 h0 (Nat.mod_eq_of_lt h0), c.sbox_byteOf 1 x 1 (Nat.mod_lt _ (by decide)) rfl,
    c.sbox_byteOf 2 x 2 (Nat.mod_lt _ (by decide)) rfl, c.sbox_byteOf 3 x 3 (n := x.toNat % 256) (by omega) (by simp),
    BitVec.toNat_add, BitVec.toNat_xor, BitVec.toNat_add]
  rfl

/-! ### The commands (R170, R172, R175) -/

theorem exec_encb_of_keyed {s : State} (h : s.operands.keyed = true) :
    exec .encb s = .next (State.finish { s with
      xl := (s.operands.cipher.encBlock { xl := s.operands.xl, xr := s.operands.xr }).xl
      xr := (s.operands.cipher.encBlock { xl := s.operands.xl, xr := s.operands.xr }).xr } 0#4) := by
  simp only [exec, execEncb, succeed, if_pos h]

theorem exec_decb_of_keyed {s : State} (h : s.operands.keyed = true) :
    exec .decb s = .next (State.finish { s with
      xl := (s.operands.cipher.decBlock { xl := s.operands.xl, xr := s.operands.xr }).xl
      xr := (s.operands.cipher.decBlock { xl := s.operands.xl, xr := s.operands.xr }).xr } 0#4) := by
  simp only [exec, execDecb, succeed, if_pos h]

/-- Settles O25: a keyed ENCB passes its one check. -/
theorem encbResult : Obligations.EncbResult := fun _ h => exec_encb_of_keyed h

/-- Settles O26: a keyed DECB passes its one check. -/
theorem decbResult : Obligations.DecbResult := fun _ h => exec_decb_of_keyed h

/-- Settles O28: a keyed FEVAL passes its one check. -/
theorem fevalResult : Obligations.FevalResult := by
  intro s h
  simp only [exec, execFeval, succeed, if_pos h]
  rfl

/-- A block function applied to the halves that the other has left gives the halves back. -/
theorem halves_restored {f g : Block → Block} (h : ∀ b, g (f b) = b) {xl xr xl' xr' : Word}
    (hxl : xl' = (f { xl := xl, xr := xr }).xl) (hxr : xr' = (f { xl := xl, xr := xr }).xr) :
    (g { xl := xl', xr := xr' }).xl = xl ∧ (g { xl := xl', xr := xr' }).xr = xr := by
  subst hxl hxr
  exact ⟨congrArg Block.xl (h _), congrArg Block.xr (h _)⟩

/-- Settles O27: the second command applies the inverse (R165) under the same CipherState to what the first has left. -/
theorem encbThenDecbRestoresTheBlock : Obligations.EncbThenDecbRestoresTheBlock := by
  intro s t hs ht hcipher
  have hdec : ∀ b, t.operands.cipher.decBlock (s.operands.cipher.encBlock b) = b := fun b => by
    rw [hcipher, CipherState.decBlock_encBlock]
  have henc : ∀ b, t.operands.cipher.encBlock (s.operands.cipher.decBlock b) = b := fun b => by
    rw [hcipher, CipherState.encBlock_decBlock]
  exact ⟨⟨_, exec_encb_of_keyed hs, fun hxl hxr => ⟨_, exec_decb_of_keyed ht, halves_restored hdec hxl hxr⟩⟩,
    ⟨_, exec_decb_of_keyed hs, fun hxl hxr => ⟨_, exec_encb_of_keyed ht, halves_restored henc hxl hxr⟩⟩⟩

end Sys2Proof.Machine
end

section
/-! The message wrapper (42_ecb.md): stripping (R202), ECB iteration block by block and its inverse (R203), the OUT write policy
(R204), and the commands ENCM and DECM (R210 to R223). -/

namespace Sys2Proof.Machine

open Sys2Proof.Spec

/-! ### Stripping (R202) -/

theorem strip_getLast?_ne_zero (r : List Byte) : (strip r).getLast? ≠ some 0#8 := by
  induction r with
  | nil => simp [strip]
  | cons b rest ih =>
    cases hs : strip rest with
    | nil => by_cases hb : b = 0#8 <;> simp [strip, hs, hb]
    | cons c r => simpa [strip, hs] using hs ▸ ih

/-- Settles O45: what stripping removes is zeros, and what it leaves does not end in one. -/
theorem stripRemovesExactlyTrailingZeros : Obligations.StripRemovesExactlyTrailingZeros := fun r =>
  ⟨eq_strip_append_zeros r, strip_getLast?_ne_zero r⟩

/-- A byte sequence that does not end in 0x00 is left whole. -/
theorem strip_of_getLast?_ne_zero {r : List Byte} (h : r.getLast? ≠ some 0#8) : strip r = r := by
  obtain ⟨n, hn⟩ := eq_strip_append_zeros r
  cases n with
  | zero => simpa using hn.symm
  | succ n => exact absurd (by rw [hn, List.replicate_succ', ← List.append_assoc, List.getLast?_concat]) h

/-! ### Bytes of a sequence that is zero from its end on -/

theorem getD_append_zeros (r : List Byte) (k n : Nat) : (r ++ List.replicate k 0#8).getD n 0#8 = r.getD n 0#8 := by
  by_cases hn : n < r.length
  · rw [List.getD_append _ _ _ _ hn]
  · rw [List.getD_append_right _ _ _ _ (by omega), List.getD_eq_default r _ (by omega), List.getD_eq_getElem?_getD,
      List.getElem?_getD_replicate_default_eq]

theorem pad_getD (m : List Byte) (n : Nat) : (pad m).getD n 0#8 = m.getD n 0#8 := getD_append_zeros m _ n

theorem strip_getD (r : List Byte) (n : Nat) : (strip r).getD n 0#8 = r.getD n 0#8 := by
  obtain ⟨k, hk⟩ := eq_strip_append_zeros r
  calc (strip r).getD n 0#8 = (strip r ++ List.replicate k 0#8).getD n 0#8 := (getD_append_zeros _ k n).symm
    _ = r.getD n 0#8 := by rw [← hk]

/-- The last byte that stripping leaves is not 0x00. -/
theorem getD_strip_length_pred_ne_zero {r : List Byte} (h : (strip r).length ≠ 0) :
    r.getD ((strip r).length - 1) 0#8 ≠ 0#8 := by
  intro hzero
  rw [← strip_getD, List.getD_eq_getElem _ _ (by omega)] at hzero
  exact strip_getLast?_ne_zero r (by rw [List.getLast?_eq_getElem?, List.getElem?_eq_getElem (by omega), hzero])

/-- A sequence is its own bytes in order. -/
theorem map_range_getD (r : List Byte) : (List.range r.length).map (fun n => r.getD n 0#8) = r := by
  refine List.ext_getElem (by simp) fun n _ hn => ?_
  simp [hn]

/-! ### ECB iteration (R203) -/

/-- A block depends on its own eight bytes alone. -/
theorem blockAt_congr {p q : Nat → Byte} {b : Nat} (h : ∀ n, 8 * b ≤ n → n < 8 * b + 8 → p n = q n) :
    blockAt p b = blockAt q b := by
  simp (disch := omega) only [blockAt, h]

/-- Every block of the result is the transformed block of the operand. -/
theorem blockAt_mapBlocks (f : Block → Block) (k : Nat) {q : List Byte} (hq : q.length = 8 * k) {b : Nat} (hb : b < k) :
    blockAt (fun n => (mapBlocks f q).getD n 0#8) b = f (blockAt (fun n => q.getD n 0#8) b) := by
  induction k generalizing q b with
  | zero => omega
  | succ k ih =>
    obtain ⟨b0, b1, b2, b3, b4, b5, b6, b7, rest, rfl, hrest⟩ := whole_blocks k q hq
    cases b with
    | zero => simp [blockAt, mapBlocks, Block.bytes, bytes32]
    | succ b => exact ih hrest (Nat.lt_of_succ_lt_succ hb)

/-- A block function that undoes another undoes it on whole blocks too. -/
theorem mapBlocks_mapBlocks {f g : Block → Block} (h : ∀ b, g (f b) = b) (k : Nat) {q : List Byte} (hq : q.length = 8 * k) :
    mapBlocks g (mapBlocks f q) = q := by
  induction k generalizing q with
  | zero => rw [List.eq_nil_of_length_eq_zero (by omega : q.length = 0)]; rfl
  | succ k ih =>
    obtain ⟨b0, b1, b2, b3, b4, b5, b6, b7, rest, rfl, hrest⟩ := whole_blocks k q hq
    simp [mapBlocks, Block.bytes, bytes32, h, ih hrest]

/-! ### The OUT write policy (R204) -/

/-- OUT holds the result and is zero after it. -/
theorem outByte_writeResult (s : State) (r : List Byte) (len : Nat) (code : BitVec 4) {n : Nat} (hn : n < s.cfg.msgMax) :
    ((s.writeResult r len).finish code).outByte n = r.getD n 0#8 := by
  have hin : n < (r ++ List.replicate (s.cfg.msgMax - r.length) 0#8).length := by simp; omega
  rw [← getD_append_zeros r (s.cfg.msgMax - r.length), State.outByte, State.finish_outBuf, State.writeResult_outBuf,
    Memory.read_ofBytes_zero, List.getD_eq_getElem _ _ hin, List.getElem?_eq_getElem hin, Option.getD_some]

/-- OUT is zero from the end of the result on. -/
theorem outByte_writeResult_zero (s : State) (r : List Byte) (len : Nat) (code : BitVec 4) {n : Nat} (hr : r.length ≤ n)
    (hn : n < s.cfg.msgMax) : ((s.writeResult r len).finish code).outByte n = 0#8 := by
  rw [outByte_writeResult s r len code hn, List.getD_eq_default _ _ hr]

/-- Every block of OUT is the transformed block of the operand, which is whole blocks and fits. -/
theorem blockAt_writeResult_mapBlocks (s : State) (f : Block → Block) {q : List Byte} (hq : q.length % 8 = 0)
    (hfits : q.length ≤ s.cfg.msgMax) (len : Nat) (code : BitVec 4) {b : Nat} (hb : 8 * b < q.length) :
    blockAt ((s.writeResult (mapBlocks f q) len).finish code).outByte b = f (blockAt (fun n => q.getD n 0#8) b) := by
  rw [← blockAt_mapBlocks f (q.length / 8) (by omega) (by omega)]
  exact blockAt_congr fun n _ hn => outByte_writeResult s _ len code (by omega)

/-- The first bytes of OUT that hold a result stripped or whole are that result. -/
theorem map_outByte_writeResult (s : State) {r p : List Byte} (hp : ∀ n, p.getD n 0#8 = r.getD n 0#8)
    (hfits : p.length ≤ s.cfg.msgMax) (len : Nat) (code : BitVec 4) :
    (List.range p.length).map ((s.writeResult r len).finish code).outByte = p := by
  conv_rhs => rw [← map_range_getD p]
  refine List.map_congr_left fun n hn => ?_
  rw [hp, outByte_writeResult s r len code ((List.mem_range.1 hn).trans_le hfits)]

/-- A length that fits the buffer fits OUTLEN. -/
theorem outlen_writeResult_toNat {s : State} (hcfg : s.cfg.wf = true) (r : List Byte) {len : Nat} (hlen : len ≤ s.cfg.msgMax)
    (code : BitVec 4) : ((s.writeResult r len).finish code).outlen.toNat = len := by
  obtain ⟨_, _, hmax⟩ := config_wf_iff.1 hcfg
  exact Nat.mod_eq_of_lt (by omega)

/-! ### The message (R210) -/

theorem message_eq_map (s : State) : s.message = (List.range s.operands.msglen.toNat).map (inputByte s) := rfl

/-- The message followed by zeros is the padded message. -/
theorem message_getD (s : State) (n : Nat) : s.message.getD n 0#8 = paddedByte s n := by
  by_cases hn : n < s.operands.msglen.toNat
  · simp [message_eq_map, paddedByte, hn]
  · rw [List.getD_eq_default _ _ (by simpa using hn), paddedByte, if_neg hn]

/-- The padded message is whole blocks, and fits when the message does. -/
theorem pad_message_fits {s : State} (hcfg : s.cfg.wf = true) (hfits : s.operands.msglen.toNat ≤ s.cfg.msgMax) :
    (pad s.message).length % 8 = 0 ∧ (pad s.message).length ≤ s.cfg.msgMax := by
  obtain ⟨hblocks, hone, _⟩ := config_wf_iff.1 hcfg
  rw [pad_length, message_length]
  exact ⟨padLen_mod _, padLen_le _ _ hfits hblocks hone⟩

/-- Two states with equal message lengths and bytes have equal messages. -/
theorem message_congr {s t : State} (hlen : t.operands.msglen = s.operands.msglen)
    (hin : ∀ n, n < s.operands.msglen.toNat → inputByte t n = inputByte s n) : t.message = s.message := by
  rw [message_eq_map, message_eq_map, hlen]
  exact List.map_congr_left fun n hn => hin n (List.mem_range.1 hn)

/-! ### The commands' successful completions (R210, R220) -/

/-- What ENCM writes to OUT (R210): the padded message, encrypted block by block. -/
def State.ciphertext (s : State) : List Byte := mapBlocks s.operands.cipher.encBlock (pad s.message)

/-- What DECM writes to OUT (R220): the message, decrypted block by block. -/
def State.plaintext (s : State) : List Byte := mapBlocks s.operands.cipher.decBlock s.message

@[simp] theorem ciphertext_length (s : State) : s.ciphertext.length = padLen s.operands.msglen.toNat := by
  rw [State.ciphertext, mapBlocks_length_of_whole _ (by simpa using padLen_mod _), pad_length, message_length]

theorem plaintext_length {s : State} (h : s.operands.msglen.toNat % 8 = 0) : s.plaintext.length = s.operands.msglen.toNat := by
  rw [State.plaintext, mapBlocks_length_of_whole _ (by simpa using h), message_length]

theorem strip_plaintext_length_le {s : State} (h : s.operands.msglen.toNat % 8 = 0) :
    (strip s.plaintext).length ≤ s.operands.msglen.toNat := plaintext_length h ▸ strip_length_le _

/-- A keyed ENCM of a message that fits passes its checks. -/
theorem exec_encm_of_fits {s : State} (hkeyed : s.operands.keyed = true) (hfits : s.operands.msglen.toNat ≤ s.cfg.msgMax) :
    exec .encm s = .next ((s.writeResult s.ciphertext (padLen s.operands.msglen.toNat)).finish 0#4) := by
  rw [← ciphertext_length s]
  simp only [exec, execEncm, succeed, if_pos hkeyed, if_neg (Nat.not_lt.2 hfits), State.ciphertext]

/-- A keyed DECM of whole blocks that fit passes its checks. -/
theorem exec_decm_of_fits {s : State} (hkeyed : s.operands.keyed = true) (hfits : s.operands.msglen.toNat ≤ s.cfg.msgMax)
    (hwhole : s.operands.msglen.toNat % 8 = 0) :
    exec .decm s = .next ((s.writeResult s.plaintext (strip s.plaintext).length).finish 0#4) := by
  simp only [exec, execDecm, succeed, if_pos hkeyed, if_neg (Nat.not_lt.2 hfits), if_neg (not_not.2 hwhole), State.plaintext]

/-! ### The round trip (R223) -/

/-- A message that is a result copied out of OUT is that result. -/
theorem message_of_copied_result {s t : State} {r : List Byte} {len : Nat} {code : BitVec 4} (hfits : r.length ≤ s.cfg.msgMax)
    (hlen : t.operands.msglen.toNat = r.length)
    (hin : ∀ n, n < r.length → inputByte t n = ((s.writeResult r len).finish code).outByte n) : t.message = r := by
  rw [message_eq_map, hlen, List.map_congr_left fun n hn => hin n (List.mem_range.1 hn)]
  exact map_outByte_writeResult s (fun _ => rfl) hfits len code

/-- Stripping the decrypted ciphertext gives the stripped message (R165, R201, R202). -/
theorem strip_plaintext_of_ciphertext {s t : State} (hcipher : t.operands.cipher = s.operands.cipher)
    (hmessage : t.message = s.ciphertext) : strip t.plaintext = strip s.message := by
  obtain ⟨k, hk⟩ : 8 ∣ (pad s.message).length := Nat.dvd_of_mod_eq_zero (by simpa using padLen_mod _)
  have hpadded : t.plaintext = pad s.message := by
    rw [State.plaintext, hmessage, hcipher, State.ciphertext]
    exact mapBlocks_mapBlocks s.operands.cipher.decBlock_encBlock k hk
  rw [hpadded, strip_pad]

/-- Settles O47: DECM's message is ENCM's result, and the cipher's inverse gives the padded message back. -/
theorem messageRoundTrip : Obligations.MessageRoundTrip := by
  intro s hcfg hkeyed hfits
  have hpad : padLen s.operands.msglen.toNat ≤ s.cfg.msgMax := by simpa using (pad_message_fits hcfg hfits).2
  refine ⟨_, exec_encm_of_fits hkeyed hfits, fun t hcfg' hkeyed' hcipher hlen hin => ?_⟩
  have hmsglen : t.operands.msglen.toNat = padLen s.operands.msglen.toNat := by
    rw [hlen, outlen_writeResult_toNat hcfg _ hpad]
  have hfits' : t.operands.msglen.toNat ≤ t.cfg.msgMax := by rwa [hmsglen, hcfg']
  have hwhole : t.operands.msglen.toNat % 8 = 0 := hmsglen ▸ padLen_mod _
  have hmessage : t.message = s.ciphertext := by
    rw [← hlen, hmsglen] at hin
    exact message_of_copied_result (by simpa using hpad) (by simpa using hmsglen) (by simpa using hin)
  have hstrip := strip_plaintext_of_ciphertext hcipher hmessage
  have hstripped : (strip t.plaintext).length ≤ t.cfg.msgMax := (strip_plaintext_length_le hwhole).trans hfits'
  refine ⟨_, exec_decm_of_fits hkeyed' hfits' hwhole, rfl, ?_⟩
  rw [outlen_writeResult_toNat (by rwa [hcfg']) _ hstripped, map_outByte_writeResult t (strip_getD _) hstripped, hstrip,
    ← message_eq_map]
  exact ⟨rfl, strip_of_getLast?_ne_zero⟩

/-! ### The results of ENCM and DECM -/

/-- Settles O29, from what ECB iteration and the OUT write policy do to a padded message that fits. -/
theorem encmResult : Obligations.EncmResult := by
  intro s hcfg hkeyed hfits
  obtain ⟨hwhole, hpad⟩ := pad_message_fits hcfg hfits
  refine ⟨_, exec_encm_of_fits hkeyed hfits, fun b hb => ?_, fun n hn hmax => ?_, rfl, rfl, rfl, rfl⟩
  · simp only [State.ciphertext]
    rw [blockAt_writeResult_mapBlocks s _ hwhole hpad _ _ (by simpa using hb)]
    simp only [pad_getD, message_getD]
  · exact outByte_writeResult_zero s _ _ _ (by simpa using hn) hmax

/-- Settles O30, from what ECB iteration, stripping and the OUT write policy do to whole blocks that fit. -/
theorem decmResult : Obligations.DecmResult := by
  intro s hcfg hkeyed hfits hwhole
  have hstrip := strip_plaintext_length_le hwhole
  have houtlen := outlen_writeResult_toNat hcfg s.plaintext (hstrip.trans hfits) 0#4
  refine ⟨_, exec_decm_of_fits hkeyed hfits hwhole, fun b hb => ?_, fun n hn hmax => ?_, houtlen.trans_le hstrip,
    fun n hn hmax => ?_, fun hne => ?_, rfl, rfl, rfl⟩
  · simp only [State.plaintext]
    rw [blockAt_writeResult_mapBlocks s _ (by simpa using hwhole) (by simpa using hfits) _ _ (by simpa using hb)]
    refine congrArg _ (blockAt_congr fun n _ hn => ?_)
    rw [message_getD, paddedByte, if_pos (by omega)]
  · exact outByte_writeResult_zero s _ _ _ (by rwa [plaintext_length hwhole]) hmax
  · rw [houtlen] at hn
    rw [outByte_writeResult s _ _ _ hmax, ← strip_getD, List.getD_eq_default _ _ hn]
  · have hpos : (strip s.plaintext).length ≠ 0 := fun h => hne (BitVec.eq_of_toNat_eq (houtlen.trans h))
    rw [houtlen, outByte_writeResult s _ _ _ (by omega)]
    exact getD_strip_length_pred_ne_zero hpos

/-- R211: the formula that the source gives for every length. -/
theorem padLen_eq (n : Nat) : padLen n = (max 1 n + 7) / 8 * 8 := by
  unfold padLen; split <;> omega

/-- Settles O44: the formula counts whole blocks, at least one, and ENCM writes the length to OUTLEN. -/
theorem paddedLength : Obligations.PaddedLength := by
  refine ⟨padLen_eq, rfl, fun n hn => ⟨padLen_ge n, by rw [padLen_eq]; omega, padLen_mod n⟩,
    fun s hcfg hkeyed hfits => ?_⟩
  obtain ⟨_, hpad⟩ := pad_message_fits hcfg hfits
  exact ⟨_, exec_encm_of_fits hkeyed hfits, outlen_writeResult_toNat hcfg _ (by simpa using hpad) _⟩

/-- Settles O46: the ciphertext is a function of the CipherState and the message. -/
theorem encmReadsOnlyTheMessage : Obligations.EncmReadsOnlyTheMessage := by
  intro s t hmax hkeyed hkeyed' hcipher hfits hlen hin
  have hciphertext : t.ciphertext = s.ciphertext := by
    rw [State.ciphertext, State.ciphertext, hcipher, message_congr hlen hin]
  refine ⟨_, _, exec_encm_of_fits hkeyed hfits, exec_encm_of_fits hkeyed' (by rwa [hlen, hmax]), ?_, ?_⟩
  · simp only [State.finish_outBuf, State.writeResult_outBuf, hciphertext, hmax]
  · simp only [State.finish_outlen, State.writeResult_outlen, hlen]

/-! ### DECM's length check (R221) -/

/-- Settles O31: each of DECM's three checks, in the order of R310, completes with its own code. -/
theorem decmLengthCheck : Obligations.DecmLengthCheck := by
  intro s
  by_cases hkeyed : s.operands.keyed = true
  · by_cases hfits : s.operands.msglen.toNat ≤ s.cfg.msgMax
    · by_cases hwhole : s.operands.msglen.toNat % 8 = 0
      · exact ⟨_, exec_decm_of_fits hkeyed hfits hwhole, by simp [hwhole], by simp⟩
      · refine ⟨s.finish 2#4, ?_, by simp [hkeyed, hfits, hwhole], fun _ => rfl⟩
        simp [exec, execDecm, raise, CmdError.code, hkeyed, hfits, hwhole]
    · refine ⟨s.finish 6#4, ?_, by simp [hfits], by simp⟩
      simp [exec, execDecm, raise, CmdError.code, hkeyed, Nat.not_le.1 hfits]
  · refine ⟨s.finish 4#4, ?_, by simp [hkeyed], by simp⟩
    simp [exec, execDecm, raise, CmdError.code, hkeyed]

end Sys2Proof.Machine
end

section
/-! The life of a command (43_control.md R230 to R235, R240): a CMD write launches or is dropped, the engine's step is the completion
of the command in flight, and NOP's completion is all there is to it. -/

namespace Sys2Proof.Machine

/-! ### Launch (R91, R231) -/

/-- Settles O18: `busWrite_of_locked` while busy, and while idle the launch that `busWrite_of_idle` lets through. -/
theorem cmdWriteLaunches : Obligations.CmdWriteLaunches := by
  intro s w
  refine ⟨fun hbusy => busWrite_of_locked hbusy (l := .cmd) rfl rfl w, fun hidle => ?_⟩
  have hwrite : s.busWrite (Loc.offset .cmd) w = (.okay, s.launch w) := busWrite_of_idle hidle rfl rfl w
  exact ⟨s.launch w, _, hwrite, State.launch_latch s w, rfl, rfl, State.launch_busy s w, State.launch_status s w, rfl⟩

/-! ### Completion (R233 to R235) -/

/-- With no reset event due, the engine moves as soon as the draw has run out or the host has nothing left to run (R234). -/
theorem turn_of_completion_due {s : State} {l : Latch} (hl : s.latch = some l) (hreset : ∀ later, s.resetSchedule ≠ 0 :: later)
    (hdue : l.wait = 0 ∨ s.host.active = false) : s.turn = .engine l.cmd := by
  rcases turn_cases s with ⟨_, later, hlater⟩ | ⟨_, ⟨m, hm, hturn, _⟩ | ⟨_, hwait⟩⟩
  · exact absurd hlater (hreset later)
  · rw [hl] at hm; cases hm
    exact hturn
  · rcases hwait with hnone | ⟨m, hm, hpos, hactive⟩
    · rw [hl] at hnone; cases hnone
    · rw [hl] at hm; cases hm
      rcases hdue with hzero | hinactive
      · exact absurd hzero hpos
      · rw [hactive] at hinactive; cases hinactive

/-- Settles O19: it is the engine's turn, so the step is the completion of the command in the latch. -/
theorem stepRunsTheLatchedCommand : Obligations.StepRunsTheLatchedCommand := by
  intro s l hl hreset hdue
  have hturn : s.turn = .engine l.cmd := turn_of_completion_due hl hreset hdue
  refine ⟨fun i hcmd => ?_, fun hcmd => ?_, tick_of_nil s⟩
  · simp only [step, hturn, hcmd]
  · have hstep : step s = completeIllegal s.tick := by simp only [step, hturn, hcmd]
    exact hstep

/-! ### NOP (R240) -/

/-- Settles O22: NOP's rule is `succeed`, the completion with code 0, on the state as it is. -/
theorem nopResult : Obligations.NopResult := fun _ => rfl

end Sys2Proof.Machine
end

section
/-! Command errors and the interrupt output (60_exceptions.md R302, R304, R310, R320): which check a command fails first, that a failed
command leaves all but STATUS, and irq as the enabled flags. -/

namespace Sys2Proof.Machine

open Sys2Proof.Spec

/-! ### The checks of each command (R310) -/

/-- The commands that read the CipherState. -/
def checksKeyed : Instr → Bool
  | .encb | .decb | .encm | .decm | .feval => true
  | .nop | .ksched | .clrkey => false

/-- R302: the commands that read the CipherState check KEYED before anything else. -/
theorem exec_of_unkeyed {i : Instr} {s : State} (hi : checksKeyed i = true) (hk : s.operands.keyed = false) :
    exec i s = .next (s.finish 4#4) := by
  cases i with
  | nop | ksched | clrkey => cases hi
  | encb => simp [exec, execEncb, raise, CmdError.code, hk]
  | decb => simp [exec, execDecb, raise, CmdError.code, hk]
  | encm => simp [exec, execEncm, raise, CmdError.code, hk]
  | decm => simp [exec, execDecm, raise, CmdError.code, hk]
  | feval => simp [exec, execFeval, raise, CmdError.code, hk]

/-- A message command that passes the check of KEYED next compares the length with `MSG_MAX`. -/
theorem exec_of_overflow {i : Instr} {s : State} (hi : i = .encm ∨ i = .decm) (hk : s.operands.keyed = true)
    (hlong : s.cfg.msgMax < s.operands.msglen.toNat) : exec i s = .next (s.finish 6#4) := by
  rcases hi with rfl | rfl
  · simp [exec, execEncm, raise, CmdError.code, hk, hlong]
  · simp [exec, execDecm, raise, CmdError.code, hk, hlong]

/-- DECM's last check is that the length is a multiple of 8. -/
theorem exec_decm_of_partial_block {s : State} (hk : s.operands.keyed = true)
    (hfits : s.operands.msglen.toNat ≤ s.cfg.msgMax) (hpartial : s.operands.msglen.toNat % 8 ≠ 0) :
    exec .decm s = .next (s.finish 2#4) := by
  simp [exec, execDecm, raise, CmdError.code, hk, hfits, hpartial]

/-- KSCHED's first check is the key length (R132). -/
theorem exec_ksched_of_illegal_length {s : State} (hlen : s.operands.keylen.toNat < 4 ∨ 56 < s.operands.keylen.toNat) :
    exec .ksched s = .next (s.finish 1#4) := by
  simp [exec, execKsched, raise, CmdError.code, hlen]

/-- KSCHED's second check is the constant table's length (R133). -/
theorem exec_ksched_of_short_table {s : State} (hlen : ¬(s.operands.keylen.toNat < 4 ∨ 56 < s.operands.keylen.toNat))
    (htable : s.cfg.ctLen < 4168) : exec .ksched s = .next (s.finish 3#4) := by
  simp [exec, execKsched, raise, CmdError.code, hlen, htable]

/-! ### The reported code (R302, R310) -/

/-- The command's completion carries the code of R310. -/
def Reports (i : Instr) (s : State) : Prop := ∃ t, exec i s = .next t ∧ t.status.errcode = reportedCode i s

theorem reports_ksched (s : State) : Reports .ksched s := by
  by_cases hlen : s.operands.keylen.toNat < 4 ∨ 56 < s.operands.keylen.toNat
  · exact ⟨_, exec_ksched_of_illegal_length hlen, by simp [reportedCode, hlen]⟩
  by_cases htable : s.cfg.constTable.length < 4168
  · exact ⟨_, exec_ksched_of_short_table hlen htable, by simp [reportedCode, hlen, htable]⟩
  · exact ⟨_, exec_ksched_of_legal (by omega) (by omega) (Nat.not_lt.1 htable), by simp [reportedCode, hlen, htable]⟩

theorem reports_of_unkeyed {i : Instr} {s : State} (hi : checksKeyed i = true) (hk : s.operands.keyed = false) :
    Reports i s := by
  refine ⟨_, exec_of_unkeyed hi hk, ?_⟩
  cases i with
  | nop | ksched | clrkey => cases hi
  | encb | decb | encm | decm | feval => simp [reportedCode, hk]

/-- Past the check of KEYED, a block command and FEVAL have none left, ENCM has one and DECM two. -/
theorem reports_of_keyed {i : Instr} {s : State} (hi : checksKeyed i = true) (hk : s.operands.keyed = true) :
    Reports i s := by
  cases i with
  | nop | ksched | clrkey => cases hi
  | encb => exact ⟨_, exec_encb_of_keyed hk, by simp [reportedCode, hk]⟩
  | decb => exact ⟨_, exec_decb_of_keyed hk, by simp [reportedCode, hk]⟩
  | feval => exact ⟨_, fevalResult s hk, by simp [reportedCode, hk, completed]⟩
  | encm =>
    by_cases hlong : s.cfg.msgMax < s.operands.msglen.toNat
    · exact ⟨_, exec_of_overflow (.inl rfl) hk hlong, by simp [reportedCode, hk, hlong]⟩
    · exact ⟨_, exec_encm_of_fits hk (Nat.not_lt.1 hlong), by simp [reportedCode, hk, hlong]⟩
  | decm =>
    by_cases hlong : s.cfg.msgMax < s.operands.msglen.toNat
    · exact ⟨_, exec_of_overflow (.inr rfl) hk hlong, by simp [reportedCode, hk, hlong]⟩
    have hfits := Nat.not_lt.1 hlong
    by_cases hwhole : s.operands.msglen.toNat % 8 = 0
    · exact ⟨_, exec_decm_of_fits hk hfits hwhole, by simp [reportedCode, hk, hlong, hwhole]⟩
    · exact ⟨_, exec_decm_of_partial_block hk hfits hwhole, by simp [reportedCode, hk, hlong, hwhole]⟩

theorem reports_of_checksKeyed {i : Instr} (hi : checksKeyed i = true) (s : State) : Reports i s := by
  cases hk : s.operands.keyed with
  | false => exact reports_of_unkeyed hi hk
  | true => exact reports_of_keyed hi hk

/-- Settles O32: NOP and CLRKEY have no check, and every other command makes its checks in the order of R310. -/
theorem commandReportsItsFirstError : Obligations.CommandReportsItsFirstError := by
  refine ⟨fun i s _ => ?_, fun s hturn => ?_⟩
  · cases i with
    | nop | clrkey => exact ⟨_, rfl, rfl⟩
    | ksched => exact reports_ksched s
    | encb | decb | encm | decm | feval => exact reports_of_checksKeyed rfl s
  · have hstep : step s = .next (s.tick.finish 5#4) := by simp only [step, hturn]; rfl
    exact ⟨_, hstep, rfl⟩

/-! ### A failed command (R304) -/

/-- The writes of a command's rule come with code 0, so that a failed command has made none. -/
theorem eq_finish_of_exec_failed {i : Instr} {s t : State} (h : exec i s = .next t) (hcode : t.status.errcode ≠ 0#4) :
    t = s.finish t.status.errcode := by
  rcases exec_cases i s with ⟨_, e⟩ | ⟨_, e⟩ | ⟨_, _, _, _, e⟩ | ⟨_, e⟩ | ⟨_, _, e⟩ | ⟨_, _, _, e⟩ | ⟨_, _, _, _, _, e⟩ <;>
    rw [h] at e <;> cases e
  · rfl
  all_goals exact absurd rfl hcode

/-- Settles O33: a failed command is only finished, with a code that sets ERR. -/
theorem failedCommandChangesOnlyStatus : Obligations.FailedCommandChangesOnlyStatus := by
  intro i s t _ h hcode
  have herr : decide (t.status.errcode ≠ 0#4) = true := decide_eq_true hcode
  calc t = s.finish t.status.errcode := eq_finish_of_exec_failed h hcode
    _ = _ := by rw [State.finish, Status.completed, herr]

/-! ### The interrupt output (R320) -/

theorem State.irq_eq_true_iff (s : State) :
    s.irq = true ↔ s.status.done = true ∧ s.irqen.doneie = true ∨ s.status.err = true ∧ s.irqen.errie = true ∨
      s.status.ovr = true ∧ s.irqen.ovrie = true := by
  simp [State.irq, or_assoc]

/-- R231: a launch clears DONE and ERR, so only OVR can hold irq. -/
@[simp] theorem State.launch_irq (s : State) (w : Word) : (s.launch w).irq = (s.status.ovr && s.irqen.ovrie) := by
  simp [State.irq]

/-- R233: a completion sets DONE, and ERR by its code. -/
@[simp] theorem State.finish_irq (s : State) (code : BitVec 4) :
    (s.finish code).irq = (s.irqen.doneie || decide (code ≠ 0#4) && s.irqen.errie || s.status.ovr && s.irqen.ovrie) := by
  simp [State.irq]

/-- Settles O17, from the flags that a launch and a completion leave. -/
theorem irqFollowsEnabledFlags : Obligations.IrqFollowsEnabledFlags := fun s =>
  ⟨State.irq_eq_true_iff s, rfl, State.launch_irq s, State.finish_irq s⟩

end Sys2Proof.Machine
end

section
/-! PROOFS. What reset leaves (R400), the idle state after it (R401), and the step of a reset event that is due (R402). -/

namespace Sys2Proof.Machine

open Sys2Proof.Spec

/-- R400's values hold whatever the constants, the host agent, the reset events to come and the model's counters are
(log entries 2, 7, 18). -/
theorem isReset_of_environment (cfg : Config) (host : HostAgent) (schedule : List Nat) (launches resets : Nat) :
    IsReset { State.reset with
      cfg := cfg, host := host, resetSchedule := schedule, launches := launches, resets := resets } := by
  have hkey : ∀ w : Fin 14, State.reset.key[w] = 0#32 := fun w => Vector.getElem_replicate w.isLt
  exact ⟨rfl, rfl, rfl, rfl, rfl, rfl, rfl, rfl, rfl, rfl, rfl, hkey, rfl, rfl, rfl, rfl⟩

theorem isReset_reset : IsReset State.reset := isReset_of_environment _ _ _ _ _

theorem isReset_blockReset (s : State) : IsReset s.blockReset := isReset_of_environment _ _ _ _ _

/-- Settles O1: power-up and a reset event differ only in fields that R400's table does not set. -/
theorem resetLeavesTheResetState : Obligations.ResetLeavesTheResetState :=
  ⟨isReset_reset, fun s => ⟨isReset_blockReset s, State.blockReset_cfg s⟩⟩

/-- A due reset event goes before the engine and the host (R402). -/
theorem step_of_reset_due {s : State} {later : List Nat} (hdue : s.resetSchedule = 0 :: later) :
    step s = .next s.blockReset := by
  have hturn : s.turn = .reset := by simp only [State.turn, hdue]
  simp only [step, hturn]

/-- A host past the end of its program changes nothing (R123, R401). -/
theorem step_of_program_ended {s : State} (hturn : s.turn = .host) (hsched : s.resetSchedule = [])
    (hend : s.host.current = none) : step s = .next s := by
  simp only [step, hturn, hostStep, tick_of_nil s hsched, hend]

/-- Settles O2: out of reset the host, whose program is empty, has the turn; a due event's step is `State.blockReset`. -/
theorem resetStateIsIdleAndResetEventsAreTaken : Obligations.ResetStateIsIdleAndResetEventsAreTaken := by
  have hturn : State.reset.turn = .host := rfl
  refine ⟨hturn, step_of_program_ended hturn rfl rfl, fun s later hdue => ?_⟩
  have hlater : s.blockReset.resetSchedule = later := by rw [State.blockReset_resetSchedule, hdue, List.tail_cons]
  exact ⟨s.blockReset, step_of_reset_due hdue, isReset_blockReset s, State.blockReset_cfg s, State.blockReset_host s, hlater⟩

end Sys2Proof.Machine
end
